-- ==== Sys2Proof/Word.lean ====
section
/-! DEFINITION. Words and byte strings (`00_scope.md` R8 to R10). A byte is an unsigned 8-bit value, bit 0
the least significant; a `ByteString` is a finite sequence of bytes, index 0 the byte transmitted first.
A 1-bit value is read as a `Bool`, 1 = true (R9). -/

namespace Sys2Proof

/-- An unsigned 8-bit value (R9). -/
abbrev Byte := BitVec 8

/-- A finite sequence of bytes in transmission order (R10). -/
abbrev ByteString := List Byte

/-- The 32-bit word of the host command port (R107). -/
abbrev CommandWord := BitVec 32

end Sys2Proof
end

