-- ==== Sys2Proof/Syntax.lean ====
section
/-! DEFINITION. The names of the spec: control states, blocks, events, messages, and the instructions: one
constructor of `Instr` per row of spec/opcode_table.json (log 12 says which bits an operand leaves out). -/

namespace Sys2Proof

/-- The control state `st` (`10_state.md` R20 to R22). Its 3-bit code is `St.code`. -/
inductive St where
  | closed
  | idle
  | awaitAck
  | awaitResp
  | receiving
  | resyncing
  | dead
  deriving DecidableEq, Repr

/-- The checksum algorithm of a session, register `edc` (R24). -/
inductive Edc where
  | lrc
  | crc
  deriving DecidableEq, Repr, Inhabited

/-- Which command started the resynchronization, register `origin` (R37). -/
inductive Origin where
  | host
  | auto
  deriving DecidableEq, Repr, Inhabited

/-- The model fault flag, register `fault` (R46). -/
inductive FaultKind where
  | none
  | hostViolation
  | transportViolation
  deriving DecidableEq, Repr

/-- A decoded block (`41_codec.md` R150). -/
inductive Block where
  /-- `I(ns_in, m_in, inf)`, R155. -/
  | info (nsIn mIn : Bool) (inf : ByteString)
  /-- `R(nr_in, err)`, R156: the INF of an R-block is discarded. -/
  | ready (nrIn : Bool) (err : BitVec 4)
  /-- `S(resp, type, sinf)`, R157. -/
  | supervisory (resp : Bool) (type : BitVec 5) (sinf : ByteString)
  deriving DecidableEq, Repr

/-- What the transport receive port carries (R38). -/
inductive RxEvent where
  | frame (bytes : ByteString)
  | timeout
  | transportError
  deriving DecidableEq, Repr

/-- An input event; a step consumes exactly one (R39). -/
inductive Event where
  /-- `Cmd(word, apdu)` from the host command port. -/
  | cmd (word : CommandWord) (apdu : ByteString)
  /-- `Rx(e)` from the transport receive port. -/
  | rx (e : RxEvent)
  deriving DecidableEq, Repr

/-- The status of a result (`60_exceptions.md` R311). Its byte is `Status.code`; the reserved codes are no status. -/
inductive Status where
  | ok
  | eFraming
  | eRetryExceeded
  | eTimeout
  | eCancelled
  | eTransport
  | eCardAbort
  | eResyncFailed
  | eResponseOverflow
  | eApduTooLong
  | eNotOpen
  | eDead
  | eBadParam
  | eBadCommand
  deriving DecidableEq, Repr

/-- A message on an output port (R38). -/
inductive Message where
  /-- `Result(status, detail, data)` on the host result port (R108). -/
  | result (status : Status) (detail : Byte) (data : ByteString)
  /-- `Tx(frame, mult)` on the transport transmit port. -/
  | tx (frame : ByteString) (mult : BitVec 8)
  /-- `RdCancel` on the transport transmit port: it withdraws the pending read. -/
  | rdCancel
  deriving DecidableEq, Repr

/-- The instructions: one constructor per row of spec/opcode_table.json, in the table's order. A row of a received
frame stands for a block read in the control state its mnemonic names (`30_encoding.md` R111, R112). -/
inductive Instr where
  /-- I@AWAIT_ACK, R196. -/
  | iAwaitAck (nsIn mIn : Bool) (inf : ByteString)
  /-- I@AWAIT_RESP.in_seq, R197. -/
  | iAwaitRespInSeq (nsIn mIn : Bool) (inf : ByteString)
  /-- I@AWAIT_RESP.out_of_seq, R198. -/
  | iAwaitRespOutOfSeq (nsIn mIn : Bool) (inf : ByteString)
  /-- I@RECEIVING.in_seq, R199. -/
  | iReceivingInSeq (nsIn mIn : Bool) (inf : ByteString)
  /-- I@RECEIVING.duplicate, R200. -/
  | iReceivingDuplicate (nsIn mIn : Bool) (inf : ByteString)
  /-- R.error, R192. -/
  | rError (nrIn : Bool) (err : BitVec 4)
  /-- R@AWAIT_ACK.ack, R191. -/
  | rAwaitAckAck (nrIn : Bool)
  /-- R@AWAIT_ACK.no_advance, R193. -/
  | rAwaitAckNoAdvance (nrIn : Bool)
  /-- R@AWAIT_RESP, R194. -/
  | rAwaitResp (nrIn : Bool)
  /-- R@RECEIVING, R195. -/
  | rReceiving (nrIn : Bool)
  /-- S_WTX_REQ, R241 (ill-formed: R249). -/
  | sWtxReq (sinf : ByteString)
  /-- S_IFS_REQ, R243 (ill-formed: R249). -/
  | sIfsReq (sinf : ByteString)
  /-- S_ABORT_REQ, R245 (ill-formed: R249). -/
  | sAbortReq (sinf : ByteString)
  /-- S_RESYNCH_REQ, R246. -/
  | sResynchReq (sinf : ByteString)
  /-- S_RESYNCH_RESP@RESYNCING, R262 and R263: the response with LEN 0. -/
  | sResynchRespResyncing
  /-- S_RESYNCH_RESP outside RESYNCING, R247. -/
  | sResynchResp (sinf : ByteString)
  /-- S_IFS_RESP, R247. -/
  | sIfsResp (sinf : ByteString)
  /-- S_ABORT_RESP, R247. -/
  | sAbortResp (sinf : ByteString)
  /-- S_WTX_RESP, R247. -/
  | sWtxResp (sinf : ByteString)
  /-- S_OTHER, types 4..31: R248 for a request, R247 for a response. -/
  | sOther (resp : Bool) (type : BitVec 5) (sinf : ByteString)
  /-- ANY@RESYNCING, R265: any block but the RESYNCH response with LEN 0. -/
  | anyResyncing (block : Block)
  /-- OPEN, R282 and R283. -/
  | openCmd (cedc : Bool) (cnad cifs : Byte)
  /-- CLOSE, R284. -/
  | closeCmd
  /-- EXCHANGE, R285 to R287. -/
  | exchangeCmd (apdu : ByteString)
  /-- CANCEL@busy, R288. -/
  | cancelBusy
  /-- CANCEL@not_busy, R289. -/
  | cancelNotBusy
  /-- RESYNC, R290. -/
  | resyncCmd
  deriving DecidableEq, Repr

end Sys2Proof
end

