-- ==== Sys2Proof/Config.lean ====
section
/-! DEFINITION. What an implementation fixes (`00_scope.md` R6) and the values the spec leaves free
(`45_host_commands.md` R284). The five parameters are plain data, carried in `State.cfg` (log 3), so that every
statement over all states is a statement over all parameters. -/

namespace Sys2Proof

/-- `CRC16_FN`, "any total function `ByteString -> Bits16`" (R6): the default instance of R134, or some other
function, which is then `Config.crc16Other` (log 4). -/
inductive CrcFn where
  | standard
  | other
  deriving DecidableEq, Repr

/-- The implementation parameters of R6. They are fixed for the lifetime of an engine. -/
structure Config where
  /-- `RETRY_MAX`, the bound on `retry`. -/
  retryMax : Nat
  /-- `AUTO_RESYNC`, whether an exhausted retry bound starts a resynchronization. -/
  autoResync : Bool
  /-- `CRC16_FN`, the 16-bit CRC function. -/
  crc16Fn : CrcFn
  /-- `APDU_MAX`, the capacity of `txBuf` in bytes. -/
  apduMax : Nat
  /-- `RESP_MAX`, the capacity of `rxBuf` in bytes. -/
  respMax : Nat
  deriving DecidableEq, Repr

/-- The legal values of R6's table. -/
abbrev Config.Legal (c : Config) : Prop :=
  c.retryMax ≤ 254 ∧ 1 ≤ c.apduMax ∧ c.apduMax < 2 ^ 32 ∧ 1 ≤ c.respMax ∧ c.respMax < 2 ^ 32

/-- R6's defaults: `RETRY_MAX` 3, `AUTO_RESYNC` false, the default CRC. R6 leaves `APDU_MAX` and `RESP_MAX` OPEN;
the largest legal value of each stands here (DESIGN CHOICE, unsafe, log 3). -/
def Config.default : Config where
  retryMax := 3
  autoResync := false
  crc16Fn := .standard
  apduMax := 2 ^ 32 - 1
  respMax := 2 ^ 32 - 1

/-- A `CRC16_FN` that is not the default instance: any total function (R6, R134; log 4). -/
opaque Config.crc16Other : ByteString → BitVec 16

/-- The registers that are unspecified once the session is destroyed: R284's "every register except `st`,
`rxPending`, `wtxMult` and `fault`". -/
structure Unspecified where
  edc : Edc
  nad : Byte
  ifs : Byte
  ns : Bool
  nr : Bool
  retry : BitVec 8
  txBuf : ByteString
  txOff : BitVec 32
  fragLen : BitVec 8
  rxBuf : ByteString
  lastTx : ByteString
  lastCause : BitVec 7
  origin : Origin
  deriving DecidableEq, Repr, Inhabited

/-- The values those registers hold after the `n`-th destruction of a session: free, nothing constrains them
(R284, R352 "may hold any value of its type"; log 6). -/
opaque Config.unspecified : Nat → Unspecified

end Sys2Proof
end

