-- ==== Sys2Proof/Machine/Checksum.lean ====
section
/-! DEFINITION. The checksum accumulator (`40_checksum.md`). Every operation is a total function of its operands (R139). -/

namespace Sys2Proof.Machine

/-- `edcLen(mode)` (R131). -/
def edcLen : Edc → Nat
  | .lrc => 1
  | .crc => 2

/-- `LRC(s)`: the XOR of the bytes, from 0x00 (R133, R138). -/
def lrc (s : ByteString) : Byte := s.foldl (· ^^^ ·) 0x00

/-- One conditional shift-XOR step of the default CRC (R134): polynomial 0x1021 with its bits reflected. -/
def crcShift (v : BitVec 16) : BitVec 16 :=
  if v.getLsbD 0 then (v >>> 1) ^^^ 0x8408 else v >>> 1

/-- The default CRC's accumulator on one byte: XOR it in, then eight shift steps (R134, R138). -/
def crcByte (v : BitVec 16) (b : Byte) : BitVec 16 :=
  crcShift (crcShift (crcShift (crcShift (crcShift (crcShift (crcShift (crcShift (v ^^^ b.setWidth 16))))))))

/-- `CRC16_default(s)` (R134). -/
def crc16Default (s : ByteString) : BitVec 16 := s.foldl crcByte 0xFFFF

/-- `CRC(s) = CRC16_FN(s)` (R134). -/
def crc16 (fn : CrcFn) (s : ByteString) : BitVec 16 :=
  match fn with
  | .standard => crc16Default s
  | .other => Config.crc16Other s

/-- The two EDC bytes of a CRC, most significant first (R135, `20_memory.md` R62). -/
def crcBytes (v : BitVec 16) : ByteString := [v.extractLsb' 8 8, v.extractLsb' 0 8]

/-- `Checksum(mode, s)` (R136). -/
def checksum (fn : CrcFn) (mode : Edc) (s : ByteString) : ByteString :=
  match mode with
  | .lrc => [lrc s]
  | .crc => crcBytes (crc16 fn s)

/-- `Verify(mode, f)`: the trailing checksum bytes against a recomputation over the preceding bytes (R137). -/
def verify (fn : CrcFn) (mode : Edc) (f : ByteString) : Bool :=
  checksum fn mode (f.take (f.length - edcLen mode)) == f.drop (f.length - edcLen mode)

end Sys2Proof.Machine
end

