-- ==== Sys2Proof/Machine/Flags.lean ====
section
/-! DEFINITION. The flag-like values of the engine: the numeric codes of its enumerations (`10_state.md` R20), when it is
busy (R23), the classes of `lastCause` (R34) and the detail byte (`60_exceptions.md` R312). The engine has no condition
codes (R40). -/

namespace Sys2Proof.Machine

/-- The engine is busy (R23). -/
def busy : St → Bool
  | .awaitAck | .awaitResp | .receiving | .resyncing => true
  | .closed | .idle | .dead => false

/-- The 3-bit encoding of `st` (R20). -/
def stCode : St → BitVec 3
  | .closed => 0
  | .idle => 1
  | .awaitAck => 2
  | .awaitResp => 3
  | .receiving => 4
  | .resyncing => 5
  | .dead => 6

/-- The bit of `edc` (R24). -/
def edcCode : Edc → BitVec 1
  | .lrc => 0
  | .crc => 1

/-- The bit of `origin` (R37). -/
def originCode : Origin → BitVec 1
  | .host => 0
  | .auto => 1

/-- The 2-bit encoding of `fault` (R20, R46). -/
def faultCode : FaultKind → BitVec 2
  | .none => 0
  | .hostViolation => 1
  | .transportViolation => 2

/-- The status byte of a result (R311). -/
def statusCode : Status → Byte
  | .ok => 0x00
  | .eFraming => 0x01
  | .eRetryExceeded => 0x02
  | .eTimeout => 0x03
  | .eCancelled => 0x04
  | .eTransport => 0x05
  | .eCardAbort => 0x06
  | .eResyncFailed => 0x07
  | .eResponseOverflow => 0x08
  | .eApduTooLong => 0x09
  | .eNotOpen => 0x0A
  | .eDead => 0x0B
  | .eBadParam => 0x0C
  | .eBadCommand => 0x0D

/-- `lastCause` of a checksum error: class 1 (R34, R190). -/
def causeChecksum : BitVec 7 := 0x10

/-- `lastCause` of an R-block error: class 2 and the error code (R34, R192). -/
def causeRError (err : BitVec 4) : BitVec 7 := 0x20 ||| err.setWidth 7

/-- `lastCause` of a protocol error: class 3 (R34, R193 to R196). -/
def causeProtocol : BitVec 7 := 0x30

/-- The values `lastCause` may hold: 0x00, 0x10, 0x21..0x2F and 0x30 (R34). -/
def causeLegal (c : BitVec 7) : Bool :=
  c == 0x00 || c == 0x10 || (decide (0x21 ≤ c.toNat) && decide (c.toNat ≤ 0x2F)) || c == 0x30

/-- Detail bits [6:0] = a cause, bit 7 = 0 (R312). -/
def detailOfCause (c : BitVec 7) : Byte := c.setWidth 8

/-- Detail after an AUTO resynchronization that succeeded: `0x80 | lastCause` (R264, R312). -/
def detailResynced (c : BitVec 7) : Byte := 0x80 ||| c.setWidth 8

/-- E_FRAMING's detail for a frame below the minimum length (R189, R312). -/
def detailShort : Byte := 0x01

end Sys2Proof.Machine
end

