-- ==== Sys2Proof/WellFormed.lean ====
section
/-! DEFINITION. The static checks of an instruction: what its row of the opcode table fixes of its operands
(`30_encoding.md` R90, R97 to R101, R111). -/

namespace Sys2Proof

/-- LEN is one byte, so INF has at most 255 bytes (`00_scope.md` R8, `30_encoding.md` R90). -/
def infFits (inf : ByteString) : Bool := inf.length ≤ 255

/-- A block that a frame can carry (R90). -/
def Block.wellFormed : Block → Bool
  | .info _ _ inf => infFits inf
  | .ready _ _ => true
  | .supervisory _ _ sinf => infFits sinf

/-- The row's own conditions on its operands: an R.error has a nonzero code (R192), S_OTHER a type 4..31 (R100), and
ANY@RESYNCING is not the RESYNCH response with LEN 0 (R262). -/
def Instr.wellFormed : Instr → Bool
  | .iAwaitAck _ _ inf => infFits inf
  | .iAwaitRespInSeq _ _ inf => infFits inf
  | .iAwaitRespOutOfSeq _ _ inf => infFits inf
  | .iReceivingInSeq _ _ inf => infFits inf
  | .iReceivingDuplicate _ _ inf => infFits inf
  | .rError _ err => err != 0
  | .rAwaitAckAck _ => true
  | .rAwaitAckNoAdvance _ => true
  | .rAwaitResp _ => true
  | .rReceiving _ => true
  | .sWtxReq sinf => infFits sinf
  | .sIfsReq sinf => infFits sinf
  | .sAbortReq sinf => infFits sinf
  | .sResynchReq sinf => infFits sinf
  | .sResynchRespResyncing => true
  | .sResynchResp sinf => infFits sinf
  | .sIfsResp sinf => infFits sinf
  | .sAbortResp sinf => infFits sinf
  | .sWtxResp sinf => infFits sinf
  | .sOther _ type sinf => decide (4 ≤ type.toNat) && infFits sinf
  | .anyResyncing block => block.wellFormed && block != .supervisory true 0 []
  | .openCmd _ _ _ => true
  | .closeCmd => true
  | .exchangeCmd _ => true
  | .cancelBusy => true
  | .cancelNotBusy => true
  | .resyncCmd => true

end Sys2Proof
end

