-- ==== Sys2Proof/Decode.lean ====
section
/-! DEFINITION. The block codec (`41_codec.md`), the host command word (`30_encoding.md` R107), the choice of the opcode
table's row (R111, R112), and the encoder of an instruction. Decoding is total on any bytes and any word and rejects by
name. -/

namespace Sys2Proof

open Machine

/-! ### Frames -/

/-- What `Decode(mode, f)` answers (R150). `FramingError` has the one reason SHORT: "unknown block type" cannot occur
(R158). -/
inductive FrameResult where
  | ok (block : Block)
  | framingShort
  | checksumLength
  | checksumEdc
  deriving DecidableEq, Repr

/-- The class masks in priority order: Information, Supervisory, Receive-Ready (R97, R154), and the fields of each
(R98 to R100, R105, R155 to R157). Reserved bits are ignored (R103). -/
def classify (pcb : Byte) (body : ByteString) : Block :=
  if pcb &&& 0x80 = 0x00 then .info (pcb.getLsbD 6) (pcb.getLsbD 5) body
  else if pcb &&& 0xC0 = 0xC0 then .supervisory (pcb.getLsbD 5) (pcb.extractLsb' 0 5) body
  else .ready (pcb.getLsbD 4) (pcb.extractLsb' 0 4)

/-- `Decode(mode, f)`: minimum length, LEN consistency, checksum, classification, in this order (R151 to R154, R160). -/
def decodeFrame (fn : CrcFn) (mode : Edc) (f : ByteString) : FrameResult :=
  if f.length < 3 + edcLen mode then .framingShort
  else
    let len := (f.getD 2 0).toNat
    if f.length ≠ 3 + len + edcLen mode then .checksumLength
    else if verify fn mode f = false then .checksumEdc
    else .ok (classify (f.getD 1 0) ((f.drop 3).take len))

/-- `MkFrame(pcb, inf)` (R161, R90, R95). -/
def mkFrame (fn : CrcFn) (mode : Edc) (nad : Byte) (pcb : Byte) (inf : ByteString) : ByteString :=
  let body := [nad, pcb, BitVec.ofNat 8 inf.length] ++ inf
  body ++ checksum fn mode body

/-- A sequence bit as a byte. -/
def bitByte (b : Bool) : Byte := if b then 1 else 0

/-- The PCB of an I-block: `(N(S) << 6) | (M << 5)`, bits 4:0 encoded 0 (R98). -/
def infoPcb (ns m : Bool) : Byte := (bitByte ns <<< 6) ||| (bitByte m <<< 5)

/-- The PCB of an R-block: `0x80 | (N(R) << 4) | err`, bit 5 encoded 0 (R99). -/
def readyPcb (nr : Bool) (err : BitVec 4) : Byte := 0x80 ||| (bitByte nr <<< 4) ||| err.setWidth 8

/-- The PCB of an S-block: `0xC0 | (resp << 5) | type` (R100). -/
def supervisoryPcb (resp : Bool) (type : BitVec 5) : Byte := 0xC0 ||| (bitByte resp <<< 5) ||| type.setWidth 8

/-- `EncodeI(s, m, frag)` (R162). -/
def encodeI (fn : CrcFn) (mode : Edc) (nad : Byte) (s m : Bool) (frag : ByteString) : ByteString :=
  mkFrame fn mode nad (infoPcb s m) frag

/-- `EncodeR(n)`: the expected next sequence bit, error code 0 (R163). -/
def encodeR (fn : CrcFn) (mode : Edc) (nad : Byte) (n : Bool) : ByteString :=
  mkFrame fn mode nad (readyPcb n 0) []

/-- `EncodeSResync()`, the S(RESYNCH request) (R164). -/
def encodeSResync (fn : CrcFn) (mode : Edc) (nad : Byte) : ByteString :=
  mkFrame fn mode nad (supervisoryPcb false 0) []

/-- `EncodeSResp(type, sinf)` (R165). -/
def encodeSResp (fn : CrcFn) (mode : Edc) (nad : Byte) (type : BitVec 5) (sinf : ByteString) : ByteString :=
  mkFrame fn mode nad (supervisoryPcb true type) sinf

/-! ### Rows of the opcode table -/

/-- What decoding reads of the machine: the CRC function, and the registers that fix the EDC length (`edc`) and the row
of a block or of a CANCEL word (`st`, `ns`, `nr`). -/
structure DecodeCtx where
  crc16Fn : CrcFn
  edc : Edc
  st : St
  ns : Bool
  nr : Bool
  deriving DecidableEq, Repr

/-- Why an event is no instruction of the table. -/
inductive Reject where
  /-- `FramingError(SHORT)` (R151). -/
  | framingShort
  /-- `ChecksumError(LENGTH)` (R152). -/
  | checksumLength
  /-- `ChecksumError(EDC)` (R153). -/
  | checksumEdc
  /-- An `Rx(Timeout)` event carries no frame (R38). -/
  | timeout
  /-- An `Rx(TransportError)` event carries no frame (R38). -/
  | transportError
  /-- A command word that is not well-formed (R107, R109). -/
  | badCommandWord
  /-- A frame while the engine is not busy: no row of the table is read in that state (R39, R319). -/
  | noRow
  deriving DecidableEq, Repr

/-- What decoding an event answers. -/
inductive Decoded where
  | instr (i : Instr)
  | rejected (r : Reject)
  deriving DecidableEq, Repr

/-- The row of an S-block outside RESYNCING (R111, R240). -/
def supervisoryRow (resp : Bool) (type : BitVec 5) (sinf : ByteString) : Instr :=
  if type = 0 then (if resp then .sResynchResp sinf else .sResynchReq sinf)
  else if type = 1 then (if resp then .sIfsResp sinf else .sIfsReq sinf)
  else if type = 2 then (if resp then .sAbortResp sinf else .sAbortReq sinf)
  else if type = 3 then (if resp then .sWtxResp sinf else .sWtxReq sinf)
  else .sOther resp type sinf

/-- The row of a block in AWAIT_ACK (R191 to R193, R196, R240). -/
def awaitAckRow (ns : Bool) : Block → Instr
  | .info s m inf => .iAwaitAck s m inf
  | .ready n err => if err ≠ 0 then .rError n err else if n = !ns then .rAwaitAckAck n else .rAwaitAckNoAdvance n
  | .supervisory resp type sinf => supervisoryRow resp type sinf

/-- The row of a block in AWAIT_RESP (R192, R194, R197, R198, R240). -/
def awaitRespRow (nr : Bool) : Block → Instr
  | .info s m inf => if s = nr then .iAwaitRespInSeq s m inf else .iAwaitRespOutOfSeq s m inf
  | .ready n err => if err ≠ 0 then .rError n err else .rAwaitResp n
  | .supervisory resp type sinf => supervisoryRow resp type sinf

/-- The row of a block in RECEIVING (R192, R195, R199, R200, R240). -/
def receivingRow (nr : Bool) : Block → Instr
  | .info s m inf => if s = nr then .iReceivingInSeq s m inf else .iReceivingDuplicate s m inf
  | .ready n err => if err ≠ 0 then .rError n err else .rReceiving n
  | .supervisory resp type sinf => supervisoryRow resp type sinf

/-- The row of a block in RESYNCING (R262). -/
def resyncingRow (b : Block) : Instr :=
  if b = .supervisory true 0 [] then .sResynchRespResyncing else .anyResyncing b

/-- The row of a block that decoded Ok, by the control state (R111, R186, R211). -/
def selectRow (c : DecodeCtx) (b : Block) : Option Instr :=
  match c.st with
  | .awaitAck => some (awaitAckRow c.ns b)
  | .awaitResp => some (awaitRespRow c.nr b)
  | .receiving => some (receivingRow c.nr b)
  | .resyncing => some (resyncingRow b)
  | .closed | .idle | .dead => none

/-- A host command word (R107): OPEN's bits [7:5] and [31:24] are 0, every other command's bits [31:4] are 0. CANCEL's
two rows are told apart by `busy(st)` (R280). The APDU is read only by EXCHANGE (R280). -/
def decodeCommand (isBusy : Bool) (w : CommandWord) (apdu : ByteString) : Option Instr :=
  if w &&& 0xFF0000EF = 0x00000001 then
    some (.openCmd (w.getLsbD 4) (w.extractLsb' 8 8) (w.extractLsb' 16 8))
  else if w = 0x00000002 then some .closeCmd
  else if w = 0x00000003 then some (.exchangeCmd apdu)
  else if w = 0x00000004 then some (if isBusy then .cancelBusy else .cancelNotBusy)
  else if w = 0x00000005 then some .resyncCmd
  else none

/-- Decode an input event in a state of the engine: total, rejecting by name (R111, R160). -/
def decode (c : DecodeCtx) : Event → Decoded
  | .cmd w apdu =>
    match decodeCommand (busy c.st) w apdu with
    | some i => .instr i
    | none => .rejected .badCommandWord
  | .rx .timeout => .rejected .timeout
  | .rx .transportError => .rejected .transportError
  | .rx (.frame f) =>
    match decodeFrame c.crc16Fn c.edc f with
    | .framingShort => .rejected .framingShort
    | .checksumLength => .rejected .checksumLength
    | .checksumEdc => .rejected .checksumEdc
    | .ok b =>
      match selectRow c b with
      | some i => .instr i
      | none => .rejected .noRow

/-! ### The encoder -/

/-- The PCB of a block (R98 to R100). -/
def blockPcb : Block → Byte
  | .info s m _ => infoPcb s m
  | .ready n err => readyPcb n err
  | .supervisory resp type _ => supervisoryPcb resp type

/-- The INF of a block; an R-block is encoded with none (R93, R94). -/
def blockInf : Block → ByteString
  | .info _ _ inf => inf
  | .ready _ _ => []
  | .supervisory _ _ sinf => sinf

/-- The frame of a block (R90, R161). -/
def encodeBlock (c : DecodeCtx) (nad : Byte) (b : Block) : ByteString :=
  mkFrame c.crc16Fn c.edc nad (blockPcb b) (blockInf b)

/-- The host command word of OPEN (R107): op 1, `cedc` in bit 4, `cnad` in bits 15:8, `cifs` in bits 23:16. -/
def openWord (cedc : Bool) (cnad cifs : Byte) : CommandWord :=
  0x00000001 ||| ((BitVec.ofBool cedc).setWidth 32 <<< 4) ||| (cnad.setWidth 32 <<< 8) ||| (cifs.setWidth 32 <<< 16)

/-- The block a row of a received frame stands for, none for a command row. -/
def rowBlock : Instr → Option Block
  | .iAwaitAck s m inf => some (.info s m inf)
  | .iAwaitRespInSeq s m inf => some (.info s m inf)
  | .iAwaitRespOutOfSeq s m inf => some (.info s m inf)
  | .iReceivingInSeq s m inf => some (.info s m inf)
  | .iReceivingDuplicate s m inf => some (.info s m inf)
  | .rError n err => some (.ready n err)
  | .rAwaitAckAck n => some (.ready n 0)
  | .rAwaitAckNoAdvance n => some (.ready n 0)
  | .rAwaitResp n => some (.ready n 0)
  | .rReceiving n => some (.ready n 0)
  | .sWtxReq sinf => some (.supervisory false 3 sinf)
  | .sIfsReq sinf => some (.supervisory false 1 sinf)
  | .sAbortReq sinf => some (.supervisory false 2 sinf)
  | .sResynchReq sinf => some (.supervisory false 0 sinf)
  | .sResynchRespResyncing => some (.supervisory true 0 [])
  | .sResynchResp sinf => some (.supervisory true 0 sinf)
  | .sIfsResp sinf => some (.supervisory true 1 sinf)
  | .sAbortResp sinf => some (.supervisory true 2 sinf)
  | .sWtxResp sinf => some (.supervisory true 3 sinf)
  | .sOther resp type sinf => some (.supervisory resp type sinf)
  | .anyResyncing b => some b
  | .openCmd _ _ _ => none
  | .closeCmd => none
  | .exchangeCmd _ => none
  | .cancelBusy => none
  | .cancelNotBusy => none
  | .resyncCmd => none

/-- The command word and the APDU of a command row (R107, R38); a frame row has none, and answers the word 0. -/
def rowCommand : Instr → CommandWord × ByteString
  | .openCmd cedc cnad cifs => (openWord cedc cnad cifs, [])
  | .closeCmd => (0x00000002, [])
  | .exchangeCmd apdu => (0x00000003, apdu)
  | .cancelBusy => (0x00000004, [])
  | .cancelNotBusy => (0x00000004, [])
  | .resyncCmd => (0x00000005, [])
  | .iAwaitAck _ _ _ => (0, [])
  | .iAwaitRespInSeq _ _ _ => (0, [])
  | .iAwaitRespOutOfSeq _ _ _ => (0, [])
  | .iReceivingInSeq _ _ _ => (0, [])
  | .iReceivingDuplicate _ _ _ => (0, [])
  | .rError _ _ => (0, [])
  | .rAwaitAckAck _ => (0, [])
  | .rAwaitAckNoAdvance _ => (0, [])
  | .rAwaitResp _ => (0, [])
  | .rReceiving _ => (0, [])
  | .sWtxReq _ => (0, [])
  | .sIfsReq _ => (0, [])
  | .sAbortReq _ => (0, [])
  | .sResynchReq _ => (0, [])
  | .sResynchRespResyncing => (0, [])
  | .sResynchResp _ => (0, [])
  | .sIfsResp _ => (0, [])
  | .sAbortResp _ => (0, [])
  | .sWtxResp _ => (0, [])
  | .sOther _ _ _ => (0, [])
  | .anyResyncing _ => (0, [])

/-- The event that carries an instruction: the frame of its block, or its command word with its APDU. `nad` is the
frame's node address, which decoding ignores (R159). -/
def encode (c : DecodeCtx) (nad : Byte) (i : Instr) : Event :=
  match rowBlock i with
  | some b => .rx (.frame (encodeBlock c nad b))
  | none => .cmd (rowCommand i).1 (rowCommand i).2

/-- The state condition of a row, the table's "cond" column: what `st`, `ns` and `nr` must be for the row to be the one
that an event selects (R111, R112). -/
def rowSelected (c : DecodeCtx) : Instr → Bool
  | .iAwaitAck _ _ _ => c.st == .awaitAck
  | .iAwaitRespInSeq s _ _ => c.st == .awaitResp && s == c.nr
  | .iAwaitRespOutOfSeq s _ _ => c.st == .awaitResp && s != c.nr
  | .iReceivingInSeq s _ _ => c.st == .receiving && s == c.nr
  | .iReceivingDuplicate s _ _ => c.st == .receiving && s != c.nr
  | .rError _ _ => busy c.st && c.st != .resyncing
  | .rAwaitAckAck n => c.st == .awaitAck && n == !c.ns
  | .rAwaitAckNoAdvance n => c.st == .awaitAck && n == c.ns
  | .rAwaitResp _ => c.st == .awaitResp
  | .rReceiving _ => c.st == .receiving
  | .sWtxReq _ => busy c.st && c.st != .resyncing
  | .sIfsReq _ => busy c.st && c.st != .resyncing
  | .sAbortReq _ => busy c.st && c.st != .resyncing
  | .sResynchReq _ => busy c.st && c.st != .resyncing
  | .sResynchRespResyncing => c.st == .resyncing
  | .sResynchResp _ => busy c.st && c.st != .resyncing
  | .sIfsResp _ => busy c.st && c.st != .resyncing
  | .sAbortResp _ => busy c.st && c.st != .resyncing
  | .sWtxResp _ => busy c.st && c.st != .resyncing
  | .sOther _ _ _ => busy c.st && c.st != .resyncing
  | .anyResyncing _ => c.st == .resyncing
  | .openCmd _ _ _ => true
  | .closeCmd => true
  | .exchangeCmd _ => true
  | .cancelBusy => busy c.st
  | .cancelNotBusy => !busy c.st
  | .resyncCmd => true

/-! ### Words of the opcode table -/

/-- The event a table word stands for. A word of 8 bits is the PCB of a received frame that decodes Ok: NAD 0x00, LEN 0,
no INF, its checksum; a word of 32 bits is a host command word with an empty APDU (log 10). -/
def tableEvent (fn : CrcFn) (mode : Edc) (nbits w : Nat) : Option Event :=
  if nbits = 8 then some (.rx (.frame (mkFrame fn mode 0x00 (BitVec.ofNat 8 w) [])))
  else if nbits = 32 then some (.cmd (BitVec.ofNat 32 w) [])
  else none

/-- The control state in which a table word is read, for the rows the word alone does not tell apart (log 10): an R-block in
AWAIT_ACK, an I- or S-block in AWAIT_RESP, a command word in IDLE. -/
def tableSt (nbits w : Nat) : St :=
  if nbits = 8 then (if BitVec.ofNat 8 w &&& 0xC0 = 0x80 then .awaitAck else .awaitResp) else .idle

/-- The instruction the decoder reads from a word of the opcode table, with `ns` = `nr` = 0 (log 10). -/
def decodeTableWord (nbits w : Nat) : Option Instr :=
  match tableEvent .standard .lrc nbits w with
  | none => none
  | some e =>
    match decode { crc16Fn := .standard, edc := .lrc, st := tableSt nbits w, ns := false, nr := false } e with
    | .instr i => some i
    | .rejected _ => none

end Sys2Proof
end

