-- ==== Sys2Proof/Machine/State.lean ====
section
/-! DEFINITION. The architectural state (`10_state.md` R20) as plain data, the ways a step can stop, and the state after
hardware reset (`70_reset_and_hazards.md` R350). -/

namespace Sys2Proof.Machine

/-- Why a step stops. Both are the "stuck" of `60_exceptions.md` R317: "Once `fault ≠ NONE`, the engine takes no further
step." -/
inductive Fault where
  /-- Raised by `step` on an engine whose `fault` register holds HOST_VIOLATION (R317, R318). Safe: the spec lets nothing
  happen there. -/
  | hostViolation
  /-- Raised by `step` on an engine whose `fault` register holds TRANSPORT_VIOLATION (R317, R319). Safe: the spec lets
  nothing happen there. -/
  | transportViolation
  deriving DecidableEq, Repr

/-- Why a step has no meaning. -/
inductive Refusal where
  /-- Raised by an arm of `exec` whose instruction has no meaning yet; no arm of this model is one. Safe. -/
  | notModelled (mnemonic : String)
  deriving DecidableEq, Repr

/-- The engine: the seventeen registers of R20, then four fields of the model's own. -/
structure State where
  /-- The control state, the part of the program counter (R21). -/
  st : St
  /-- The checksum algorithm of the session (R24). -/
  edc : Edc
  /-- The node address of the session (R25). -/
  nad : Byte
  /-- The largest INF of an I-block the engine sends (R26). -/
  ifs : Byte
  /-- The N(S) bit of the next I-block sent (R27). -/
  ns : Bool
  /-- The N(S) bit expected of the next inbound I-block (R28). -/
  nr : Bool
  /-- The recoverable errors counted (R29). -/
  retry : BitVec 8
  /-- The outbound APDU (R30). -/
  txBuf : ByteString
  /-- The offset of the fragment in flight (R31). -/
  txOff : BitVec 32
  /-- The length of the fragment in flight (R31). -/
  fragLen : BitVec 8
  /-- The response accumulated so far (R32). -/
  rxBuf : ByteString
  /-- The last frame sent by `Transmit` (R33). -/
  lastTx : ByteString
  /-- The class of the most recent recoverable error (R34). -/
  lastCause : BitVec 7
  /-- A reply is awaited (R35). -/
  rxPending : Bool
  /-- The timeout multiplier of the pending read (R36). -/
  wtxMult : BitVec 8
  /-- Which command started the resynchronization (R37). -/
  origin : Origin
  /-- The model fault flag (R46). -/
  fault : FaultKind
  /-- The model's own: the implementation parameters of `00_scope.md` R6, which no step changes (log 3). -/
  cfg : Config
  /-- The model's own: the input events the environment offers, oldest first (R39, R320; log 1). -/
  inbox : List Event
  /-- The model's own: the messages emitted so far, oldest first (R38, R68; log 1). -/
  outbox : List Message
  /-- The model's own: how often the unspecified values of R284 were drawn (log 6). -/
  freeCount : Nat
  deriving DecidableEq, Repr

/-- The machine right after hardware reset (R350): `st` CLOSED, `rxPending` 0, `wtxMult` 1, `fault` NONE. R350 leaves every
other register unspecified; the values named here are DESIGN CHOICE, unsafe (log 5), those of `cfg` log 3. -/
def State.reset : State where
  st := .closed
  edc := .lrc
  nad := 0x00
  ifs := 0x00
  ns := false
  nr := false
  retry := 0
  txBuf := []
  txOff := 0
  fragLen := 0
  rxBuf := []
  lastTx := []
  lastCause := 0x00
  rxPending := false
  wtxMult := 1
  origin := .host
  fault := .none
  cfg := Config.default
  inbox := []
  outbox := []
  freeCount := 0

end Sys2Proof.Machine
end

