-- ==== Sys2Proof/Machine/Operands.lean ====
section
/-! DEFINITION. The operands a rule reads: the parameter of an S-block (`30_encoding.md` R101, R102, R105), the fragment to
send (`42_exchange.md` R182), and what decoding reads of the state. -/

namespace Sys2Proof.Machine

/-- What decoding reads of the state. -/
def decodeCtx (s : State) : DecodeCtx where
  crc16Fn := s.cfg.crc16Fn
  edc := s.edc
  st := s.st
  ns := s.ns
  nr := s.nr

/-- The multiplier of a WTX request: LEN 1, 1..255; none when ill-formed (R101, R240, R249). -/
def wtxParam : ByteString → Option Byte
  | [m] => if m = 0 then none else some m
  | _ => none

/-- The new IFS of an IFS request: LEN 1, 1..254; none when ill-formed (R101, R240, R249). -/
def ifsParam : ByteString → Option Byte
  | [v] => if v = 0 then none else if v = 0xFF then none else some v
  | _ => none

/-- An ABORT request is well-formed when LEN = 0 (R101, R240, R249). -/
def abortWellFormed (sinf : ByteString) : Bool := sinf.isEmpty

/-- OPEN's `cifs` is in 1..254 (`45_host_commands.md` R282, R283). -/
def cifsLegal (cifs : Byte) : Bool := decide (1 ≤ cifs.toNat) && decide (cifs.toNat ≤ 254)

/-- `min(ifs, len(txBuf) - txOff)`, the length of the fragment cut at `txOff` (R182). -/
def nextFragLen (s : State) : Nat := min s.ifs.toNat (s.txBuf.length - s.txOff.toNat)

/-- Whether more fragments follow the one cut at `txOff` (R182). -/
def moreFollows (s : State) : Bool := decide (s.txOff.toNat + nextFragLen s < s.txBuf.length)

/-- `MemRead(buf, i, n)` (`00_scope.md` R11). -/
def memRead (buf : ByteString) (i n : Nat) : ByteString := (buf.drop i).take n

end Sys2Proof.Machine
end

