-- ==== Sys2Proof/Machine/Ops.lean ====
section
/-! DEFINITION. The shared procedures of the spec, each under its name there. `abort` is the common end of every failed
command (`60_exceptions.md` R313) and `raiseFault` the model fault (R317); the engine has no other exception and no return
from one (R322). -/

namespace Sys2Proof.Machine

/-! ### Ports -/

/-- `Emit(port, msg)` (`00_scope.md` R11): messages leave in the order the rule lists them (`20_memory.md` R68). -/
def emit (m : Message) (s : State) : State := { s with outbox := s.outbox ++ [m] }

/-- The receive step's prologue (`42_exchange.md` R186): the read is no longer pending, the multiplier reverts. -/
def rxPrologue (s : State) : State := { s with rxPending := false, wtxMult := 1 }

/-- `Transmit(f)` (R183). -/
def transmit (f : ByteString) (s : State) : State :=
  emit (.tx f 1) { s with lastTx := f, wtxMult := 1, rxPending := true }

/-- `Retransmit()` (R184). -/
def retransmit (s : State) : State :=
  emit (.tx s.lastTx 1) { s with wtxMult := 1, rxPending := true }

/-! ### Errors -/

/-- `Abort(code, detail)` (R313). -/
def abort (code : Status) (detail : Byte) (s : State) : State :=
  emit (.result code detail []) { s with txBuf := [], txOff := 0, rxBuf := [], rxPending := false, st := .idle }

/-- `raise Fault(kind)`: it writes nothing else and emits nothing (R317). -/
def raiseFault (kind : FaultKind) (s : State) : State := { s with fault := kind }

/-- `StartResync(o)` (`44_resync.md` R261). -/
def startResync (o : Origin) (s : State) : State :=
  transmit (encodeSResync s.cfg.crc16Fn s.edc s.nad)
    { s with origin := o, retry := 0, txBuf := [], rxBuf := [], txOff := 0, st := .resyncing }

/-- `RetryExhausted()` (`42_exchange.md` R210). -/
def retryExhausted (s : State) : State :=
  if s.cfg.autoResync then startResync .auto s else abort .eRetryExceeded (detailOfCause s.lastCause) s

/-- `Recoverable(cause)` (R185). The comparison is on the natural number, so that no wrap of `retry` could hide the bound
(`10_state.md` R29, log 13). -/
def recoverable (cause : BitVec 7) (s : State) : State :=
  let t := { s with retry := s.retry + 1, lastCause := cause }
  if s.cfg.retryMax < s.retry.toNat + 1 then retryExhausted t else retransmit t

/-! ### Exchange -/

/-- `SendFragment()` (R182). -/
def sendFragment (s : State) : State :=
  let n := nextFragLen s
  let more := moreFollows s
  let f := encodeI s.cfg.crc16Fn s.edc s.nad s.ns more (memRead s.txBuf s.txOff.toNat n)
  let t := transmit f { s with fragLen := BitVec.ofNat 8 n }
  { t with st := if more then .awaitAck else .awaitResp }

/-- `StartExchange(apdu)` (R181). -/
def startExchange (apdu : ByteString) (s : State) : State :=
  sendFragment { s with txBuf := apdu, txOff := 0, rxBuf := [], retry := 0, lastCause := 0x00 }

/-- The positive acknowledgement of R191: toggle `ns`, go past the fragment, send the next one. -/
def ackAdvance (s : State) : State :=
  sendFragment { s with ns := !s.ns, txOff := s.txOff + s.fragLen.setWidth 32 }

/-- `Complete()` (R202). -/
def complete (s : State) : State :=
  emit (.result .ok 0x00 s.rxBuf) { s with txBuf := [], rxBuf := [], st := .idle }

/-- `Accept(m, inf)` (R201). -/
def accept (m : Bool) (inf : ByteString) (s : State) : State :=
  if s.cfg.respMax < s.rxBuf.length + inf.length then abort .eResponseOverflow 0x00 s
  else
    let t := { s with rxBuf := s.rxBuf ++ inf, nr := !s.nr }
    if m then { transmit (encodeR t.cfg.crc16Fn t.edc t.nad t.nr) t with st := .receiving }
    else complete t

/-! ### Supervisory blocks -/

/-- `WtxRequest(m)` (`43_supervisory.md` R241). -/
def wtxRequest (m : Byte) (s : State) : State :=
  emit (.tx (encodeSResp s.cfg.crc16Fn s.edc s.nad 3 [m]) m) { s with wtxMult := m, rxPending := true }

/-- `IfsRequest(v)` (R243). -/
def ifsRequest (v : Byte) (s : State) : State :=
  emit (.tx (encodeSResp s.cfg.crc16Fn s.edc s.nad 1 [v]) 1) { s with ifs := v, wtxMult := 1, rxPending := true }

/-- `CardAbort()`: the response, with no read after it, then the abort (R245). -/
def cardAbort (s : State) : State :=
  abort .eCardAbort 0x00 (emit (.tx (encodeSResp s.cfg.crc16Fn s.edc s.nad 2 []) 0) s)

/-! ### Resynchronization -/

/-- `ResyncResult()` (`44_resync.md` R264). -/
def resyncResult (s : State) : State :=
  match s.origin with
  | .host => emit (.result .ok 0x00 []) s
  | .auto => emit (.result .eRetryExceeded (detailResynced s.lastCause) []) s

/-- `ResyncDone()` (R263). -/
def resyncDone (s : State) : State :=
  resyncResult { s with ns := false, nr := false, retry := 0, st := .idle }

/-- `ResyncFailed()` (R266). -/
def resyncFailed (s : State) : State :=
  let t := { s with txBuf := [], rxBuf := [], st := .dead, rxPending := false }
  match s.origin with
  | .auto => emit (.result .eResyncFailed (detailOfCause s.lastCause) []) t
  | .host => emit (.result .eResyncFailed 0x00 []) t

/-- `ResyncAttemptFailed()` (R265). -/
def resyncAttemptFailed (s : State) : State :=
  let t := { s with retry := s.retry + 1 }
  if s.cfg.retryMax < s.retry.toNat + 1 then resyncFailed t else retransmit t

/-! ### Host commands -/

/-- `Open(cedc, cnad, cifs)` (`45_host_commands.md` R282, R283). -/
def openSession (cedc : Bool) (cnad cifs : Byte) (s : State) : State :=
  if cifsLegal cifs then
    emit (.result .ok 0x00 [])
      { s with
        edc := if cedc then .crc else .lrc
        nad := cnad
        ifs := cifs
        ns := false
        nr := false
        retry := 0
        lastCause := 0x00
        txBuf := []
        txOff := 0
        fragLen := 0
        rxBuf := []
        rxPending := false
        wtxMult := 1
        st := .idle }
  else emit (.result .eBadParam 0x00 []) s

/-- The destroyed session: every register but `st`, `rxPending`, `wtxMult` and `fault` takes a free value (R284, R352;
log 6). -/
def unspecify (s : State) : State :=
  let u := Config.unspecified s.freeCount
  { s with
    edc := u.edc
    nad := u.nad
    ifs := u.ifs
    ns := u.ns
    nr := u.nr
    retry := u.retry
    txBuf := u.txBuf
    txOff := u.txOff
    fragLen := u.fragLen
    rxBuf := u.rxBuf
    lastTx := u.lastTx
    lastCause := u.lastCause
    origin := u.origin
    freeCount := s.freeCount + 1 }

/-- `Close()` (R284). -/
def closeSession (s : State) : State :=
  emit (.result .ok 0x00 []) { unspecify s with st := .closed }

/-- `Exchange(apdu)` while not busy (R285 to R287). -/
def exchange (apdu : ByteString) (s : State) : State :=
  match s.st with
  | .closed => emit (.result .eNotOpen 0x00 []) s
  | .dead => emit (.result .eDead 0x00 []) s
  | .idle | .awaitAck | .awaitResp | .receiving | .resyncing =>
    if s.cfg.apduMax < apdu.length then emit (.result .eApduTooLong 0x00 []) s else startExchange apdu s

/-- `Resync()` while not busy (R286, R290). -/
def resync (s : State) : State :=
  match s.st with
  | .closed => emit (.result .eNotOpen 0x00 []) s
  | .dead => emit (.result .eDead 0x00 []) s
  | .idle | .awaitAck | .awaitResp | .receiving | .resyncing => startResync .host s

/-- `HostCancel()` (R288): the read is withdrawn, then the abort. -/
def hostCancel (s : State) : State := abort .eCancelled 0x00 (emit .rdCancel s)

/-- A command other than CANCEL: HOST_VIOLATION while busy (R280, R281, R318), else its rule. -/
def unlessBusy (rule : State → State) (s : State) : State :=
  if busy s.st then raiseFault .hostViolation s else rule s

/-- A command word that is not well-formed: E_BAD_COMMAND while not busy, HOST_VIOLATION while busy (R109, R281). -/
def badCommand (s : State) : State := unlessBusy (emit (.result .eBadCommand 0x00 [])) s

/-! ### Hardware reset -/

/-- Hardware reset of a running engine (`70_reset_and_hazards.md` R350): every register as after reset. It acts outside the
step model and emits nothing; the parameters are not state, and the ports' queues are the environment's (log 11). -/
def hardwareReset (s : State) : State :=
  { State.reset with cfg := s.cfg, inbox := s.inbox, outbox := s.outbox, freeCount := s.freeCount }

end Sys2Proof.Machine
end

