-- ==== Sys2Proof/Machine/HostCommands.lean ====
section
/-! DEFINITION. The rows of a host command word (`45_host_commands.md` R280 to R290). -/

namespace Sys2Proof.Machine

/-- OPEN (R282, R283). -/
def execOpenCmd (cedc : Bool) (cnad cifs : Byte) (s : State) : Host.Outcome State Fault Refusal :=
  .next (unlessBusy (openSession cedc cnad cifs) s)

/-- CLOSE (R284). -/
def execCloseCmd (s : State) : Host.Outcome State Fault Refusal :=
  .next (unlessBusy closeSession s)

/-- EXCHANGE (R285 to R287). -/
def execExchangeCmd (apdu : ByteString) (s : State) : Host.Outcome State Fault Refusal :=
  .next (unlessBusy (exchange apdu) s)

/-- CANCEL@busy (R288). -/
def execCancelBusy (s : State) : Host.Outcome State Fault Refusal :=
  .next (hostCancel s)

/-- CANCEL@not_busy (R289): no register changes, nothing is emitted, there is no result. -/
def execCancelNotBusy (s : State) : Host.Outcome State Fault Refusal :=
  .next s

/-- RESYNC (R290, R286). -/
def execResyncCmd (s : State) : Host.Outcome State Fault Refusal :=
  .next (unlessBusy resync s)

end Sys2Proof.Machine
end

