-- ==== Sys2Proof/Machine/Information.lean ====
section
/-! DEFINITION. The rows of a received I-block (`42_exchange.md` R196 to R200). Each runs after the receive prologue, in the control state
its row names (`rowSelected`, log 9). -/

namespace Sys2Proof.Machine

/-- I@AWAIT_ACK (R196): a protocol error; nothing is appended and `ns` is not toggled. -/
def execIAwaitAck (_nsIn _mIn : Bool) (_inf : ByteString) (s : State) : Host.Outcome State Fault Refusal :=
  .next (recoverable causeProtocol s)

/-- I@AWAIT_RESP.in_seq (R197): the card's I-block acknowledges the engine's last one, and is accepted. -/
def execIAwaitRespInSeq (_nsIn mIn : Bool) (inf : ByteString) (s : State) : Host.Outcome State Fault Refusal :=
  .next (accept mIn inf { s with ns := !s.ns })

/-- I@AWAIT_RESP.out_of_seq (R198): a sequence error; the last I-block is resent and nothing is counted. -/
def execIAwaitRespOutOfSeq (_nsIn _mIn : Bool) (_inf : ByteString) (s : State) : Host.Outcome State Fault Refusal :=
  .next (retransmit s)

/-- I@RECEIVING.in_seq (R199): the next response fragment is accepted. -/
def execIReceivingInSeq (_nsIn mIn : Bool) (inf : ByteString) (s : State) : Host.Outcome State Fault Refusal :=
  .next (accept mIn inf s)

/-- I@RECEIVING.duplicate (R200): the last acknowledgement is resent and nothing is appended. -/
def execIReceivingDuplicate (_nsIn _mIn : Bool) (_inf : ByteString) (s : State) : Host.Outcome State Fault Refusal :=
  .next (retransmit s)

end Sys2Proof.Machine
end

