-- ==== Sys2Proof/Machine/ReceiveReady.lean ====
section
/-! DEFINITION. The rows of a received R-block (`42_exchange.md` R191 to R195). Each runs after the receive prologue, in the control state
its row names (`rowSelected`, log 9). -/

namespace Sys2Proof.Machine

/-- R.error (R192): the card's error code is counted; N(R) is ignored. -/
def execRError (_nrIn : Bool) (err : BitVec 4) (s : State) : Host.Outcome State Fault Refusal :=
  .next (recoverable (causeRError err) s)

/-- R@AWAIT_ACK.ack (R191): the positive acknowledgement. -/
def execRAwaitAckAck (_nrIn : Bool) (s : State) : Host.Outcome State Fault Refusal :=
  .next (ackAdvance s)

/-- R@AWAIT_ACK.no_advance (R193): a protocol error. -/
def execRAwaitAckNoAdvance (_nrIn : Bool) (s : State) : Host.Outcome State Fault Refusal :=
  .next (recoverable causeProtocol s)

/-- R@AWAIT_RESP (R194): a protocol error. -/
def execRAwaitResp (_nrIn : Bool) (s : State) : Host.Outcome State Fault Refusal :=
  .next (recoverable causeProtocol s)

/-- R@RECEIVING (R195): a protocol error; the last acknowledgement is resent. -/
def execRReceiving (_nrIn : Bool) (s : State) : Host.Outcome State Fault Refusal :=
  .next (recoverable causeProtocol s)

end Sys2Proof.Machine
end

