-- ==== Sys2Proof/Machine/Resync.lean ====
section
/-! DEFINITION. The rows of a block received in RESYNCING (`44_resync.md` R262 to R266). Each runs after the receive prologue (log 9). -/

namespace Sys2Proof.Machine

/-- S_RESYNCH_RESP@RESYNCING (R262, R263): the well-formed response. -/
def execSResynchRespResyncing (s : State) : Host.Outcome State Fault Refusal :=
  .next (resyncDone s)

/-- ANY@RESYNCING (R262, R265): every other block is a failed attempt. -/
def execAnyResyncing (_block : Block) (s : State) : Host.Outcome State Fault Refusal :=
  .next (resyncAttemptFailed s)

end Sys2Proof.Machine
end

