-- ==== Sys2Proof/Machine/Supervisory.lean ====
section
/-! DEFINITION. The rows of an S-block received in AWAIT_ACK, AWAIT_RESP or RECEIVING (`43_supervisory.md` R240 to R249). Each runs after
the receive prologue (log 9). -/

namespace Sys2Proof.Machine

/-- S_WTX_REQ (R241), ill-formed R249. -/
def execSWtxReq (sinf : ByteString) (s : State) : Host.Outcome State Fault Refusal :=
  .next (match wtxParam sinf with
    | some m => wtxRequest m s
    | none => recoverable causeProtocol s)

/-- S_IFS_REQ (R243), ill-formed R249. -/
def execSIfsReq (sinf : ByteString) (s : State) : Host.Outcome State Fault Refusal :=
  .next (match ifsParam sinf with
    | some v => ifsRequest v s
    | none => recoverable causeProtocol s)

/-- S_ABORT_REQ (R245), ill-formed R249. -/
def execSAbortReq (sinf : ByteString) (s : State) : Host.Outcome State Fault Refusal :=
  .next (if abortWellFormed sinf then cardAbort s else recoverable causeProtocol s)

/-- S_RESYNCH_REQ (R246): the engine is no responder; a protocol error. -/
def execSResynchReq (_sinf : ByteString) (s : State) : Host.Outcome State Fault Refusal :=
  .next (recoverable causeProtocol s)

/-- S_RESYNCH_RESP outside RESYNCING (R247): a protocol error. -/
def execSResynchResp (_sinf : ByteString) (s : State) : Host.Outcome State Fault Refusal :=
  .next (recoverable causeProtocol s)

/-- S_IFS_RESP (R247): a protocol error. -/
def execSIfsResp (_sinf : ByteString) (s : State) : Host.Outcome State Fault Refusal :=
  .next (recoverable causeProtocol s)

/-- S_ABORT_RESP (R247): a protocol error. -/
def execSAbortResp (_sinf : ByteString) (s : State) : Host.Outcome State Fault Refusal :=
  .next (recoverable causeProtocol s)

/-- S_WTX_RESP (R247): a protocol error. -/
def execSWtxResp (_sinf : ByteString) (s : State) : Host.Outcome State Fault Refusal :=
  .next (recoverable causeProtocol s)

/-- S_OTHER (R248 for a request, R247 for a response): a protocol error. -/
def execSOther (_resp : Bool) (_type : BitVec 5) (_sinf : ByteString) (s : State) : Host.Outcome State Fault Refusal :=
  .next (recoverable causeProtocol s)

end Sys2Proof.Machine
end

