-- ==== Sys2Proof/Machine/Dispatch.lean ====
section
/-! DEFINITION. The meaning of every instruction: one arm per row of the opcode table. -/

namespace Sys2Proof.Machine

/-- The meaning of an instruction: the rule its row names. -/
def exec (i : Instr) (s : State) : Host.Outcome State Fault Refusal :=
  match i with
  | .iAwaitAck nsIn mIn inf => Sys2Proof.Machine.execIAwaitAck nsIn mIn inf s
  | .iAwaitRespInSeq nsIn mIn inf => Sys2Proof.Machine.execIAwaitRespInSeq nsIn mIn inf s
  | .iAwaitRespOutOfSeq nsIn mIn inf => Sys2Proof.Machine.execIAwaitRespOutOfSeq nsIn mIn inf s
  | .iReceivingInSeq nsIn mIn inf => Sys2Proof.Machine.execIReceivingInSeq nsIn mIn inf s
  | .iReceivingDuplicate nsIn mIn inf => Sys2Proof.Machine.execIReceivingDuplicate nsIn mIn inf s
  | .rError nrIn err => Sys2Proof.Machine.execRError nrIn err s
  | .rAwaitAckAck nrIn => Sys2Proof.Machine.execRAwaitAckAck nrIn s
  | .rAwaitAckNoAdvance nrIn => Sys2Proof.Machine.execRAwaitAckNoAdvance nrIn s
  | .rAwaitResp nrIn => Sys2Proof.Machine.execRAwaitResp nrIn s
  | .rReceiving nrIn => Sys2Proof.Machine.execRReceiving nrIn s
  | .sWtxReq sinf => Sys2Proof.Machine.execSWtxReq sinf s
  | .sIfsReq sinf => Sys2Proof.Machine.execSIfsReq sinf s
  | .sAbortReq sinf => Sys2Proof.Machine.execSAbortReq sinf s
  | .sResynchReq sinf => Sys2Proof.Machine.execSResynchReq sinf s
  | .sResynchRespResyncing => Sys2Proof.Machine.execSResynchRespResyncing s
  | .sResynchResp sinf => Sys2Proof.Machine.execSResynchResp sinf s
  | .sIfsResp sinf => Sys2Proof.Machine.execSIfsResp sinf s
  | .sAbortResp sinf => Sys2Proof.Machine.execSAbortResp sinf s
  | .sWtxResp sinf => Sys2Proof.Machine.execSWtxResp sinf s
  | .sOther resp type sinf => Sys2Proof.Machine.execSOther resp type sinf s
  | .anyResyncing block => Sys2Proof.Machine.execAnyResyncing block s
  | .openCmd cedc cnad cifs => Sys2Proof.Machine.execOpenCmd cedc cnad cifs s
  | .closeCmd => Sys2Proof.Machine.execCloseCmd s
  | .exchangeCmd apdu => Sys2Proof.Machine.execExchangeCmd apdu s
  | .cancelBusy => Sys2Proof.Machine.execCancelBusy s
  | .cancelNotBusy => Sys2Proof.Machine.execCancelNotBusy s
  | .resyncCmd => Sys2Proof.Machine.execResyncCmd s

end Sys2Proof.Machine
end

