-- ==== Sys2Proof/Machine/Events.lean ====
section
/-! DEFINITION. What the engine does with one input event (`00_scope.md` R12, `10_state.md` R39): the fault checks, the receive
prologue (`42_exchange.md` R186), the decoded instruction, and the events that are no instruction (R187 to R190, R262,
R109). -/

namespace Sys2Proof.Machine

/-- In RESYNCING every event but the well-formed response is a failed attempt (R262); elsewhere the rule given. -/
def unlessResyncing (rule : State → State) (s : State) : State :=
  if s.st = .resyncing then resyncAttemptFailed s else rule s

/-- `Timeout` (R187, R262). -/
def onTimeout (s : State) : State := unlessResyncing (abort .eTimeout 0x00) s

/-- `TransportError` (R188, R262). -/
def onTransportError (s : State) : State := unlessResyncing (abort .eTransport 0x00) s

/-- `FramingError(SHORT)` (R189, R262). -/
def onFramingShort (s : State) : State := unlessResyncing (abort .eFraming detailShort) s

/-- `ChecksumError(LENGTH | EDC)` (R190, R262). -/
def onChecksumError (s : State) : State := unlessResyncing (recoverable causeChecksum) s

/-- An event that decoding rejects, after the prologue. -/
def onReject (r : Reject) (s : State) : State :=
  match r with
  | .framingShort => onFramingShort s
  | .checksumLength => onChecksumError s
  | .checksumEdc => onChecksumError s
  | .timeout => onTimeout s
  | .transportError => onTransportError s
  | .badCommandWord => badCommand s
  | .noRow => raiseFault .transportViolation s

/-- Whether the engine awaits the reply that an `Rx` event brings: `rxPending` = 1 and busy (R35, R39, R319; log 8). -/
def awaitsReply (s : State) : Bool := s.rxPending && busy s.st

/-- Run the decoded instruction, or the rule of an event that is none. -/
def dispatchEvent (e : Event) (s : State) : Host.Outcome State Fault Refusal :=
  match decode (decodeCtx s) e with
  | .instr i => exec i s
  | .rejected r => .next (onReject r s)

/-- One input event: a command as it stands (R280), an `Rx` event after the prologue, or TRANSPORT_VIOLATION where no reply
is awaited (R186, R319). -/
def handleEvent (e : Event) (s : State) : Host.Outcome State Fault Refusal :=
  match e with
  | .cmd _ _ => dispatchEvent e s
  | .rx _ => if awaitsReply s then dispatchEvent e (rxPrologue s) else .next (raiseFault .transportViolation s)

/-- The stop of an engine whose `fault` register holds a violation (R317, log 7); none while it holds NONE. -/
def haltReason : FaultKind → Option Fault
  | .none => none
  | .hostViolation => some .hostViolation
  | .transportViolation => some .transportViolation

/-- One step: a faulted engine takes none (R317); with no event offered the engine waits (R351, log 2); else it consumes
exactly one event (R12, R39). -/
def stepEvent (s : State) : Host.Outcome State Fault Refusal :=
  match haltReason s.fault with
  | some f => .fault f
  | none =>
    match s.inbox with
    | [] => .next s
    | e :: rest => handleEvent e { s with inbox := rest }

/-- The state in which the very next step runs the table word `w` as an instruction (log 10): its event is offered first; the
control state and the sequence bits are those `decodeTableWord` reads it in. A command word is read outside busy, in the state
at hand where that is one. -/
def placeWord (s : State) (nbits w : Nat) : State :=
  match tableEvent s.cfg.crc16Fn s.edc nbits w with
  | none => s
  | some e =>
    if nbits = 8 then
      { s with
        st := tableSt nbits w
        ns := false
        nr := false
        rxPending := true
        fault := .none
        inbox := e :: s.inbox }
    else
      { s with
        st := if busy s.st then tableSt nbits w else s.st
        rxPending := false
        fault := .none
        inbox := e :: s.inbox }

end Sys2Proof.Machine
end

