-- ==== Sys2Proof/Machine/Step.lean ====
section
/-! DEFINITION. The step of the machine, and the placement of a table word where the step reads its next event. -/

namespace Sys2Proof.Machine

/-- One step of the engine (`00_scope.md` R12). -/
def step (s : State) : Host.Outcome State Fault Refusal := stepEvent s

/-- `s` with the instruction of a table word offered first, in the control state its row is read in (log 10). -/
def State.withFetchWord (s : State) (nbits w : Nat) : State := placeWord s nbits w

end Sys2Proof.Machine
end

