-- ==== Sys2Proof/Safety.lean ====
section
/-! DEFINITION. What the claims speak of: the invariant of every run (`10_state.md` R44), the frame a retransmission resends
(`70_reset_and_hazards.md` R358), the effects the rules share, written field by field from their pseudocode, and the messages of
a step. None of these is used by the machine. -/

namespace Sys2Proof.Machine

/-! ### Invariants -/

/-- An exchange is in progress: AWAIT_ACK, AWAIT_RESP or RECEIVING (`42_exchange.md` R186). -/
def inExchange (st : St) : Bool := st == .awaitAck || st == .awaitResp || st == .receiving

/-- The invariants of R44, word for word, for a session (`st` not CLOSED). -/
structure SessionInvariant (s : State) : Prop where
  ifs_range : 1 ≤ s.ifs.toNat ∧ s.ifs.toNat ≤ 254
  retry_bound : s.retry.toNat ≤ s.cfg.retryMax + 1
  rxBuf_bound : s.rxBuf.length ≤ s.cfg.respMax
  txBuf_bound : s.txBuf.length ≤ s.cfg.apduMax
  fragment_inside : inExchange s.st = true → s.txOff.toNat + s.fragLen.toNat ≤ s.txBuf.length
  more_in_awaitAck : s.st = .awaitAck → s.txOff.toNat + s.fragLen.toNat < s.txBuf.length
  none_in_awaitResp : s.st = .awaitResp → s.txOff.toNat + s.fragLen.toNat = s.txBuf.length
  pending_iff_busy : s.rxPending = busy s.st
  idle_buffers : s.st = .idle → s.txBuf = [] ∧ s.rxBuf = []

/-- What every step keeps: R44 in a session, and what R44 rests on: the parameters are legal (R6), no read is pending in
CLOSED (R350), a busy engine has not passed the retry bound (R185, R265), a resynchronization holds no APDU and no response
(R261), the multiplier, `lastCause` and `fragLen` are legal values (R20, R34). -/
structure Sound (s : State) : Prop where
  cfg_legal : s.cfg.Legal
  session : s.st ≠ .closed → SessionInvariant s
  closed_quiet : s.st = .closed → s.rxPending = false
  busy_retry : busy s.st = true → s.retry.toNat ≤ s.cfg.retryMax
  resync_buffers : s.st = .resyncing → s.txBuf = [] ∧ s.rxBuf = []
  wtxMult_pos : 1 ≤ s.wtxMult.toNat
  cause_legal : s.st ≠ .closed → causeLegal s.lastCause = true
  fragLen_legal : s.st ≠ .closed → s.fragLen.toNat ≤ 254

/-- The frame a retransmission resends, by control state (R358): the I-block of the fragment in flight in AWAIT_ACK and
AWAIT_RESP, the acknowledgement in RECEIVING, the RESYNCH request in RESYNCING. -/
def LastTxIsTheBlockInFlight (s : State) : Prop :=
  match s.st with
  | .awaitAck =>
    s.lastTx = mkFrame s.cfg.crc16Fn s.edc s.nad (if s.ns then 0x60 else 0x20)
      ((s.txBuf.drop s.txOff.toNat).take s.fragLen.toNat)
  | .awaitResp =>
    s.lastTx = mkFrame s.cfg.crc16Fn s.edc s.nad (if s.ns then 0x40 else 0x00)
      ((s.txBuf.drop s.txOff.toNat).take s.fragLen.toNat)
  | .receiving => s.lastTx = mkFrame s.cfg.crc16Fn s.edc s.nad (if s.nr then 0x90 else 0x80) []
  | .resyncing => s.lastTx = mkFrame s.cfg.crc16Fn s.edc s.nad 0xC0 []
  | .closed | .idle | .dead => True

/-! ### Effects the rules share -/

/-- The state a rule starts from when an `Rx` event is consumed: the event gone, the read no longer pending, the multiplier 1
(`42_exchange.md` R186). -/
def received (s : State) (rest : List Event) : State :=
  { s with inbox := rest, rxPending := false, wtxMult := 1 }

/-- The effect of `Retransmit()` (R184). -/
def resent (s : State) : State :=
  { s with wtxMult := 1, rxPending := true, outbox := s.outbox ++ [.tx s.lastTx 1] }

/-- The effect of `Abort(code, detail)` (`60_exceptions.md` R313). -/
def aborted (code : Status) (detail : Byte) (s : State) : State :=
  { s with
    txBuf := []
    txOff := 0
    rxBuf := []
    rxPending := false
    st := .idle
    outbox := s.outbox ++ [.result code detail []] }

/-- The RESYNCH request as a frame (`41_codec.md` R164). -/
def resyncRequest (s : State) : ByteString := mkFrame s.cfg.crc16Fn s.edc s.nad 0xC0 []

/-- The effect of `StartResync(o)` (`44_resync.md` R261). -/
def resyncStarted (o : Origin) (s : State) : State :=
  { s with
    origin := o
    retry := 0
    txBuf := []
    rxBuf := []
    txOff := 0
    st := .resyncing
    lastTx := resyncRequest s
    wtxMult := 1
    rxPending := true
    outbox := s.outbox ++ [.tx (resyncRequest s) 1] }

/-- The effect of `Recoverable(cause)` (R185, R210): within the bound the last frame is resent, past it the exchange is
aborted or, with `AUTO_RESYNC`, a resynchronization starts. -/
def Recovered (cause : BitVec 7) (s t : State) : Prop :=
  (s.retry.toNat + 1 ≤ s.cfg.retryMax → t = resent { s with retry := s.retry + 1, lastCause := cause }) ∧
  (s.cfg.retryMax < s.retry.toNat + 1 → s.cfg.autoResync = false →
    t = aborted .eRetryExceeded (cause.setWidth 8) { s with retry := s.retry + 1, lastCause := cause }) ∧
  (s.cfg.retryMax < s.retry.toNat + 1 → s.cfg.autoResync = true →
    t = resyncStarted .auto { s with lastCause := cause })

/-- The effect of `ResyncAttemptFailed()` (`44_resync.md` R265, R266). -/
def AttemptFailed (s t : State) : Prop :=
  (s.retry.toNat + 1 ≤ s.cfg.retryMax → t = resent { s with retry := s.retry + 1 }) ∧
  (s.cfg.retryMax < s.retry.toNat + 1 →
    t = { s with
      retry := s.retry + 1
      txBuf := []
      rxBuf := []
      st := .dead
      rxPending := false
      outbox := s.outbox ++
        [.result .eResyncFailed (if s.origin = .auto then s.lastCause.setWidth 8 else 0x00) []] })

/-- The effect of sending the fragment cut at offset `off` with sequence bit `b` (R182, R183): it is
`txBuf[off ..< off + n]` for n = min(ifs, len(txBuf) − off), chained when more bytes follow. -/
def fragmentSent (off : Nat) (b : Bool) (s : State) : State :=
  let n := min s.ifs.toNat (s.txBuf.length - off)
  let more := decide (off + n < s.txBuf.length)
  let f := mkFrame s.cfg.crc16Fn s.edc s.nad ((if b then 0x40 else 0x00) ||| (if more then 0x20 else 0x00))
    ((s.txBuf.drop off).take n)
  { s with
    fragLen := BitVec.ofNat 8 n
    lastTx := f
    wtxMult := 1
    rxPending := true
    st := if more then .awaitAck else .awaitResp
    outbox := s.outbox ++ [.tx f 1] }

/-- The effect of `Accept(m, inf)` (R201, R202): overflow aborts before the append; a chained block is acknowledged with the
toggled `nr`; the last block completes the exchange with the accumulated response. -/
def Accepted (m : Bool) (inf : ByteString) (s t : State) : Prop :=
  (s.cfg.respMax < s.rxBuf.length + inf.length → t = aborted .eResponseOverflow 0x00 s) ∧
  (s.rxBuf.length + inf.length ≤ s.cfg.respMax → m = true →
    t = { s with
      rxBuf := s.rxBuf ++ inf
      nr := !s.nr
      lastTx := mkFrame s.cfg.crc16Fn s.edc s.nad (if s.nr then 0x80 else 0x90) []
      wtxMult := 1
      rxPending := true
      st := .receiving
      outbox := s.outbox ++ [.tx (mkFrame s.cfg.crc16Fn s.edc s.nad (if s.nr then 0x80 else 0x90) []) 1] }) ∧
  (s.rxBuf.length + inf.length ≤ s.cfg.respMax → m = false →
    t = { s with
      rxBuf := []
      nr := !s.nr
      txBuf := []
      st := .idle
      outbox := s.outbox ++ [.result .ok 0x00 (s.rxBuf ++ inf)] })

/-! ### Command words -/

/-- A command word is well-formed when its op is not reserved and its must-be-0 bits are 0 (`30_encoding.md` R107). -/
def wordWellFormed (w : CommandWord) : Prop :=
  (w.extractLsb' 0 4 = 1 ∧ w.extractLsb' 5 3 = 0 ∧ w.extractLsb' 24 8 = 0) ∨
  ((w.extractLsb' 0 4 = 2 ∨ w.extractLsb' 0 4 = 3 ∨ w.extractLsb' 0 4 = 4 ∨ w.extractLsb' 0 4 = 5) ∧
    w.extractLsb' 4 28 = 0)

/-! ### Messages -/

/-- A message on the host result port. -/
def isResult : Message → Bool
  | .result _ _ _ => true
  | .tx _ _ | .rdCancel => false

/-- A frame on the transport transmit port. -/
def isTx : Message → Bool
  | .tx _ _ => true
  | .result _ _ _ | .rdCancel => false

/-- The result of the machine's `n` steps is the state `t`, with neither fault nor refusal on the way. -/
def RunsTo (n : Nat) (s t : State) : Prop := Host.Core.run Sys2Proof.core n s = .next t

/-! ### A lossless channel -/

/-- The sequence bit of the `j`-th block of a message whose first block carries `b` (`10_state.md` R27, R28). -/
def seqBit (b : Bool) (j : Nat) : Bool := b ^^ decide (j % 2 = 1)

/-- The number of I-blocks an APDU of `len` bytes is sent in: max(1, ceil(len / ifs)) (`42_exchange.md` R206). -/
def fragmentCount (len ifs : Nat) : Nat := max 1 ((len + ifs - 1) / ifs)

/-- The PCB of an I-block (`30_encoding.md` R98). -/
def infoByte (seq more : Bool) : Byte := (if seq then 0x40 else 0x00) ||| (if more then 0x20 else 0x00)

/-- The PCB of an error-free R-block with N(R) = `n` (R99). -/
def ackByte (n : Bool) : Byte := if n then 0x90 else 0x80

end Sys2Proof.Machine
end

