-- ==== Sys2Proof/Certificates/Slice0/Obligations.lean ====
section
/-! DEFINITION. The statements for the provers, over the machine of Sys2Proof/Machine and the words of Sys2Proof/Safety.lean.
Each docstring cites the rules it formalises, and says where a clause is the model's own choice. -/

open Sys2Proof Sys2Proof.Machine

/-! ### The step -/

/-- R12, R186: a step runs the instruction its event decodes to. Around `exec` the step takes the event from the queue and,
for an `Rx` event, does the receive prologue. -/
def Obligations.StepRunsTheDecodedInstruction : Prop :=
  ∀ (s : State) (e : Event) (rest : List Event) (i : Instr),
    s.fault = .none → s.inbox = e :: rest → decode (decodeCtx s) e = .instr i →
      (∀ w apdu, e = .cmd w apdu → step s = exec i { s with inbox := rest }) ∧
      (∀ r, e = .rx r → s.rxPending = true → busy s.st = true → step s = exec i (received s rest))

/-- The model's choice (log 2, from R351's "the engine waits for its first event"): with no event offered nothing changes. -/
def Obligations.NoEventLeavesTheStateUnchanged : Prop :=
  ∀ s : State, s.fault = .none → s.inbox = [] → step s = .next s

/-- R317: "Once `fault ≠ NONE`, the engine takes no further step." That the model answers a fault outcome is log 7. -/
def Obligations.FaultedEngineTakesNoStep : Prop :=
  ∀ s : State,
    (s.fault = .hostViolation → step s = .fault .hostViolation) ∧
    (s.fault = .transportViolation → step s = .fault .transportViolation)

/-- R318: a command other than the CANCEL word while busy records HOST_VIOLATION and changes no other register. -/
def Obligations.CommandWhileBusyIsAHostViolation : Prop :=
  ∀ (s : State) (w : CommandWord) (apdu : ByteString) (rest : List Event),
    s.fault = .none → s.inbox = .cmd w apdu :: rest → busy s.st = true → w ≠ 0x00000004 →
      step s = .next { s with inbox := rest, fault := .hostViolation }

/-- R319: an `Rx` event while `rxPending` = 0, or while the engine is not busy, records TRANSPORT_VIOLATION and changes no
other register. That the second case stands even where `rxPending` = 1 (a state no run reaches) is log 8. -/
def Obligations.UnawaitedReplyIsATransportViolation : Prop :=
  ∀ (s : State) (r : RxEvent) (rest : List Event),
    s.fault = .none → s.inbox = .rx r :: rest → (s.rxPending = false ∨ busy s.st = false) →
      step s = .next { s with inbox := rest, fault := .transportViolation }

/-- R317 to R319: no other event raises a fault. -/
def Obligations.FaultsMarkOnlyContractViolations : Prop :=
  ∀ s t : State, step s = .next t → t.fault ≠ .none →
    (∃ w apdu rest, s.inbox = .cmd w apdu :: rest ∧ busy s.st = true ∧ w ≠ 0x00000004 ∧
      t = { s with inbox := rest, fault := .hostViolation }) ∨
    (∃ r rest, s.inbox = .rx r :: rest ∧ (s.rxPending = false ∨ busy s.st = false) ∧
      t = { s with inbox := rest, fault := .transportViolation })

/-- R109: a command word that is not well-formed (R107) is answered E_BAD_COMMAND while not busy, and faults while busy. -/
def Obligations.IllFormedWordIsRejected : Prop :=
  ∀ (s : State) (w : CommandWord) (apdu : ByteString) (rest : List Event),
    s.fault = .none → s.inbox = .cmd w apdu :: rest → ¬ wordWellFormed w →
      (busy s.st = false →
        step s = .next { s with inbox := rest, outbox := s.outbox ++ [.result .eBadCommand 0x00 []] }) ∧
      (busy s.st = true → step s = .next { s with inbox := rest, fault := .hostViolation })

/-- R353 "No command writes them", and no frame does: the parameters never change (the model carries them in State, log 3). -/
def Obligations.ParametersNeverChange : Prop :=
  ∀ s t : State, step s = .next t → t.cfg = s.cfg

/-! ### Codec -/

/-- Decode and encode agree for every well-formed instruction, in every state that selects its row, with every operand. -/
def Obligations.EveryInstructionRoundTrips : Prop :=
  ∀ (c : DecodeCtx) (nad : Byte) (i : Instr), i.wellFormed = true → rowSelected c i = true →
    decode c (encode c nad i) = .instr i

/-- R111: what an event decodes to is a well-formed instruction, and its row is the one the state selects. -/
def Obligations.DecodedInstructionIsWellFormedAndSelected : Prop :=
  ∀ (c : DecodeCtx) (e : Event) (i : Instr), decode c e = .instr i → i.wellFormed = true ∧ rowSelected c i = true

/-- R166: the frames the engine's encoders make decode back to their blocks. -/
def Obligations.EngineFramesDecodeBack : Prop :=
  ∀ (fn : CrcFn) (mode : Edc) (nad : Byte),
    (∀ s m (frag : ByteString), frag.length ≤ 254 →
      decodeFrame fn mode (encodeI fn mode nad s m frag) = .ok (.info s m frag)) ∧
    (∀ n, decodeFrame fn mode (encodeR fn mode nad n) = .ok (.ready n 0)) ∧
    decodeFrame fn mode (encodeSResync fn mode nad) = .ok (.supervisory false 0 []) ∧
    (∀ (t : BitVec 5) (x : ByteString), (t = 1 ∨ t = 2 ∨ t = 3) → x.length ≤ 1 →
      decodeFrame fn mode (encodeSResp fn mode nad t x) = .ok (.supervisory true t x))

/-- R151, R152, R153: the minimum length first, then the LEN byte, then the checksum. -/
def Obligations.DecodeErrorsInOrder : Prop :=
  ∀ (fn : CrcFn) (mode : Edc) (f : ByteString),
    (f.length < 3 + edcLen mode → decodeFrame fn mode f = .framingShort) ∧
    (3 + edcLen mode ≤ f.length → f.length ≠ 3 + (f.getD 2 0).toNat + edcLen mode →
      decodeFrame fn mode f = .checksumLength) ∧
    (f.length = 3 + (f.getD 2 0).toNat + edcLen mode →
      checksum fn mode (f.take (f.length - edcLen mode)) ≠ f.drop (f.length - edcLen mode) →
      decodeFrame fn mode f = .checksumEdc)

/-- R97, R154 to R157: a valid frame is read by the range of its PCB, and its fields are the named bits; every other bit of
the PCB is ignored. -/
def Obligations.PcbSelectsClassAndFields : Prop :=
  ∀ (fn : CrcFn) (mode : Edc) (f : ByteString),
    f.length = 3 + (f.getD 2 0).toNat + edcLen mode →
    checksum fn mode (f.take (f.length - edcLen mode)) = f.drop (f.length - edcLen mode) →
    let p := (f.getD 1 0).toNat
    let inf := (f.drop 3).take (f.getD 2 0).toNat
    (p < 0x80 →
      decodeFrame fn mode f = .ok (.info (decide (p / 64 % 2 = 1)) (decide (p / 32 % 2 = 1)) inf)) ∧
    (0x80 ≤ p → p < 0xC0 →
      decodeFrame fn mode f = .ok (.ready (decide (p / 16 % 2 = 1)) (BitVec.ofNat 4 (p % 16)))) ∧
    (0xC0 ≤ p →
      decodeFrame fn mode f = .ok (.supervisory (decide (p / 32 % 2 = 1)) (BitVec.ofNat 5 (p % 32)) inf))

/-- R97 to R101, R107: words of the spec decode to what it says they are: hex(00 90 00 90) is R(1,0), hex(00 C3 01 02 C0) is
S(WTX req, 2), hex(00 E0 00 E0) is S(RESYNCH resp), hex(00 20 02 AA BB 33) is I(0,1)[AA BB], 0x00202111 is OPEN CRC nad 0x21
ifs 32. -/
def Obligations.SpecWordsDecode : Prop :=
  decode ⟨.standard, .lrc, .awaitAck, false, false⟩ (.rx (.frame [0x00, 0x90, 0x00, 0x90])) =
    .instr (.rAwaitAckAck true) ∧
  decode ⟨.standard, .lrc, .awaitResp, false, false⟩ (.rx (.frame [0x00, 0xC3, 0x01, 0x02, 0xC0])) =
    .instr (.sWtxReq [0x02]) ∧
  decode ⟨.standard, .lrc, .resyncing, false, false⟩ (.rx (.frame [0x00, 0xE0, 0x00, 0xE0])) =
    .instr .sResynchRespResyncing ∧
  decode ⟨.standard, .lrc, .awaitResp, false, false⟩ (.rx (.frame [0x00, 0x20, 0x02, 0xAA, 0xBB, 0x33])) =
    .instr (.iAwaitRespInSeq false true [0xAA, 0xBB]) ∧
  decode ⟨.standard, .lrc, .closed, false, false⟩ (.cmd 0x00202111 []) = .instr (.openCmd true 0x21 0x20)

/-- R140, C6: whichever single byte of a valid frame changes, under LRC or the default CRC, decoding answers a checksum error:
LENGTH for the LEN byte, EDC for any other. That the default CRC does so for every frame is the spec's inference. -/
def Obligations.SingleByteChangeIsAChecksumError : Prop :=
  ∀ (mode : Edc) (f : ByteString) (b : Block) (k : Nat) (x : Byte),
    decodeFrame .standard mode f = .ok b → k < f.length → f.getD k 0 ≠ x →
      decodeFrame .standard mode (f.set k x) = (if k = 2 then .checksumLength else .checksumEdc)

/-! ### Receive errors -/

/-- R187: a timeout in AWAIT_ACK, AWAIT_RESP or RECEIVING aborts with E_TIMEOUT. -/
def Obligations.TimeoutAborts : Prop :=
  ∀ (s : State) (rest : List Event),
    s.fault = .none → s.inbox = .rx .timeout :: rest → s.rxPending = true → inExchange s.st = true →
      step s = .next (aborted .eTimeout 0x00 (received s rest))

/-- R188: a transport error in AWAIT_ACK, AWAIT_RESP or RECEIVING aborts with E_TRANSPORT. -/
def Obligations.TransportErrorAborts : Prop :=
  ∀ (s : State) (rest : List Event),
    s.fault = .none → s.inbox = .rx .transportError :: rest → s.rxPending = true → inExchange s.st = true →
      step s = .next (aborted .eTransport 0x00 (received s rest))

/-- R189: a frame below the minimum length in AWAIT_ACK, AWAIT_RESP or RECEIVING aborts with E_FRAMING, detail 0x01. -/
def Obligations.ShortFrameAborts : Prop :=
  ∀ (s : State) (f : ByteString) (rest : List Event),
    s.fault = .none → s.inbox = .rx (.frame f) :: rest → s.rxPending = true → inExchange s.st = true →
    f.length < 3 + edcLen s.edc →
      step s = .next (aborted .eFraming 0x01 (received s rest))

/-- R190: a checksum error (LENGTH or EDC) in AWAIT_ACK, AWAIT_RESP or RECEIVING is recoverable with cause 0x10. -/
def Obligations.ChecksumErrorIsRecoverable : Prop :=
  ∀ (s : State) (f : ByteString) (rest : List Event),
    s.fault = .none → s.inbox = .rx (.frame f) :: rest → s.rxPending = true → inExchange s.st = true →
    (decodeFrame s.cfg.crc16Fn s.edc f = .checksumLength ∨ decodeFrame s.cfg.crc16Fn s.edc f = .checksumEdc) →
      ∃ t, step s = .next t ∧ Recovered 0x10 (received s rest) t

/-! ### R-blocks -/

/-- R191, R182, R183: a positive acknowledgement toggles `ns`, goes past the fragment and sends the next one. The last
hypothesis is what R44 gives in every state a run reaches: the offset stays inside a buffer shorter than 2^32 (log 13). -/
def Obligations.PositiveAckSendsTheNextFragment : Prop :=
  ∀ (s : State) (n : Bool), s.st = .awaitAck → n = !s.ns → s.txOff.toNat + s.fragLen.toNat < 2 ^ 32 →
    exec (.rAwaitAckAck n) s =
      .next (fragmentSent (s.txOff.toNat + s.fragLen.toNat) (!s.ns)
        { s with ns := !s.ns, txOff := BitVec.ofNat 32 (s.txOff.toNat + s.fragLen.toNat) })

/-- R192: an R-block with an error code is recoverable with cause 0x20 | e, whatever its N(R). -/
def Obligations.ErrorRBlockIsRecoverable : Prop :=
  ∀ (s : State) (n : Bool) (e : BitVec 4), inExchange s.st = true → e ≠ 0 →
    ∃ t, exec (.rError n e) s = .next t ∧ Recovered (0x20 ||| e.setWidth 7) s t

/-- R193, R194, R195: an error-free R-block that does not advance is recoverable with cause 0x30. -/
def Obligations.UselessRBlockIsRecoverable : Prop :=
  ∀ (s : State) (n : Bool),
    (s.st = .awaitAck → n = s.ns → ∃ t, exec (.rAwaitAckNoAdvance n) s = .next t ∧ Recovered 0x30 s t) ∧
    (s.st = .awaitResp → ∃ t, exec (.rAwaitResp n) s = .next t ∧ Recovered 0x30 s t) ∧
    (s.st = .receiving → ∃ t, exec (.rReceiving n) s = .next t ∧ Recovered 0x30 s t)

/-! ### I-blocks -/

/-- R196: an I-block in AWAIT_ACK is recoverable with cause 0x30. -/
def Obligations.IBlockInAwaitAckIsRecoverable : Prop :=
  ∀ (s : State) (b m : Bool) (inf : ByteString), s.st = .awaitAck →
    ∃ t, exec (.iAwaitAck b m inf) s = .next t ∧ Recovered 0x30 s t

/-- R197, R201, R202: the first response I-block in sequence toggles `ns` and is accepted. -/
def Obligations.FirstResponseBlockIsAccepted : Prop :=
  ∀ (s : State) (m : Bool) (inf : ByteString), s.st = .awaitResp →
    ∃ t, exec (.iAwaitRespInSeq s.nr m inf) s = .next t ∧ Accepted m inf { s with ns := !s.ns } t

/-- R199, R201, R202: the next response fragment is accepted and `ns` is not toggled. -/
def Obligations.NextResponseBlockIsAccepted : Prop :=
  ∀ (s : State) (m : Bool) (inf : ByteString), s.st = .receiving →
    ∃ t, exec (.iReceivingInSeq s.nr m inf) s = .next t ∧ Accepted m inf s t

/-- R198, R200, R184: an I-block with the wrong sequence bit makes the engine resend its last frame, and changes nothing
else. -/
def Obligations.WrongSequenceBitResends : Prop :=
  ∀ (s : State) (b m : Bool) (inf : ByteString), b ≠ s.nr →
    (s.st = .awaitResp → exec (.iAwaitRespOutOfSeq b m inf) s = .next (resent s)) ∧
    (s.st = .receiving → exec (.iReceivingDuplicate b m inf) s = .next (resent s))

/-! ### S-blocks -/

/-- R241: a WTX request with a multiplier 1..255 is answered by its echo, sent with that multiplier. -/
def Obligations.WtxRequestIsAnswered : Prop :=
  ∀ (s : State) (m : Byte), inExchange s.st = true → 1 ≤ m.toNat →
    exec (.sWtxReq [m]) s = .next { s with
      wtxMult := m
      rxPending := true
      outbox := s.outbox ++ [.tx (mkFrame s.cfg.crc16Fn s.edc s.nad 0xE3 [m]) m] }

/-- R243: an IFS request with a value 1..254 sets `ifs` and is answered by its echo. -/
def Obligations.IfsRequestIsAnswered : Prop :=
  ∀ (s : State) (v : Byte), inExchange s.st = true → 1 ≤ v.toNat → v.toNat ≤ 254 →
    exec (.sIfsReq [v]) s = .next { s with
      ifs := v
      wtxMult := 1
      rxPending := true
      outbox := s.outbox ++ [.tx (mkFrame s.cfg.crc16Fn s.edc s.nad 0xE1 [v]) 1] }

/-- R245: an ABORT request is answered with no read after it, and then the exchange ends with E_CARD_ABORT. -/
def Obligations.AbortRequestEndsTheExchange : Prop :=
  ∀ s : State, inExchange s.st = true →
    exec (.sAbortReq []) s = .next { s with
      txBuf := []
      txOff := 0
      rxBuf := []
      rxPending := false
      st := .idle
      outbox := s.outbox ++
        [.tx (mkFrame s.cfg.crc16Fn s.edc s.nad 0xE2 []) 0, .result .eCardAbort 0x00 []] }

/-- R246, R247, R248: a RESYNCH request, any response and an unrecognized S-block are recoverable with cause 0x30. -/
def Obligations.UnexpectedSBlockIsRecoverable : Prop :=
  ∀ (s : State) (sinf : ByteString), inExchange s.st = true →
    (∃ t, exec (.sResynchReq sinf) s = .next t ∧ Recovered 0x30 s t) ∧
    (∃ t, exec (.sResynchResp sinf) s = .next t ∧ Recovered 0x30 s t) ∧
    (∃ t, exec (.sIfsResp sinf) s = .next t ∧ Recovered 0x30 s t) ∧
    (∃ t, exec (.sAbortResp sinf) s = .next t ∧ Recovered 0x30 s t) ∧
    (∃ t, exec (.sWtxResp sinf) s = .next t ∧ Recovered 0x30 s t) ∧
    (∀ (resp : Bool) (type : BitVec 5), 4 ≤ type.toNat →
      ∃ t, exec (.sOther resp type sinf) s = .next t ∧ Recovered 0x30 s t)

/-- R249: a recognized request whose LEN or parameter is wrong is recoverable with cause 0x30. -/
def Obligations.IllFormedSBlockIsRecoverable : Prop :=
  ∀ (s : State) (sinf : ByteString), inExchange s.st = true →
    ((sinf.length ≠ 1 ∨ sinf = [0x00]) → ∃ t, exec (.sWtxReq sinf) s = .next t ∧ Recovered 0x30 s t) ∧
    ((sinf.length ≠ 1 ∨ sinf = [0x00] ∨ sinf = [0xFF]) →
      ∃ t, exec (.sIfsReq sinf) s = .next t ∧ Recovered 0x30 s t) ∧
    (sinf.length ≠ 0 → ∃ t, exec (.sAbortReq sinf) s = .next t ∧ Recovered 0x30 s t)

/-! ### Resynchronization -/

/-- R263, R264: the RESYNCH response sets both sequence bits to 0, clears `retry`, and answers OK to a RESYNC command or
E_RETRY_EXCEEDED with 0x80 | lastCause to the abandoned EXCHANGE. -/
def Obligations.ResyncResponseResetsTheSequence : Prop :=
  ∀ s : State, s.st = .resyncing →
    exec .sResynchRespResyncing s = .next { s with
      ns := false
      nr := false
      retry := 0
      st := .idle
      outbox := s.outbox ++
        [if s.origin = .host then .result .ok 0x00 []
         else .result .eRetryExceeded (0x80 ||| s.lastCause.setWidth 8) []] }

/-- R265, R266: any other block in RESYNCING is a failed attempt. -/
def Obligations.OtherBlockIsAFailedAttempt : Prop :=
  ∀ (s : State) (b : Block), s.st = .resyncing → b ≠ .supervisory true 0 [] →
    ∃ t, exec (.anyResyncing b) s = .next t ∧ AttemptFailed s t

/-- R262: in RESYNCING every event but the RESYNCH response with LEN 0 and a valid checksum is a failed attempt. -/
def Obligations.OnlyTheResyncResponseCounts : Prop :=
  ∀ (s : State) (r : RxEvent) (rest : List Event),
    s.fault = .none → s.inbox = .rx r :: rest → s.rxPending = true → s.st = .resyncing →
    (∀ f, r = .frame f → decodeFrame s.cfg.crc16Fn s.edc f ≠ .ok (.supervisory true 0 [])) →
      ∃ t, step s = .next t ∧ AttemptFailed (received s rest) t

/-! ### Host commands -/

/-- R282, R283: OPEN with `cifs` in 1..254 creates the session; with 0 or 255 it changes no register. -/
def Obligations.OpenCreatesTheSession : Prop :=
  ∀ (s : State) (cedc : Bool) (cnad cifs : Byte), busy s.st = false →
    (1 ≤ cifs.toNat → cifs.toNat ≤ 254 →
      exec (.openCmd cedc cnad cifs) s = .next { s with
        edc := if cedc then .crc else .lrc
        nad := cnad
        ifs := cifs
        ns := false
        nr := false
        retry := 0
        lastCause := 0x00
        txBuf := []
        txOff := 0
        fragLen := 0
        rxBuf := []
        rxPending := false
        wtxMult := 1
        st := .idle
        outbox := s.outbox ++ [.result .ok 0x00 []] }) ∧
    ((cifs = 0x00 ∨ cifs = 0xFF) →
      exec (.openCmd cedc cnad cifs) s = .next { s with outbox := s.outbox ++ [.result .eBadParam 0x00 []] })

/-- R284: CLOSE ends in CLOSED with OK, and keeps `rxPending`, `wtxMult` and `fault`. Of the other registers, which R284
leaves unspecified, nothing is said. -/
def Obligations.CloseEndsTheSession : Prop :=
  ∀ s : State, busy s.st = false →
    ∃ t, exec .closeCmd s = .next t ∧ t.st = .closed ∧ t.rxPending = s.rxPending ∧ t.wtxMult = s.wtxMult ∧
      t.fault = s.fault ∧ t.outbox = s.outbox ++ [.result .ok 0x00 []] ∧ t.inbox = s.inbox ∧ t.cfg = s.cfg

/-- R285, R181, R182: an accepted EXCHANGE starts the exchange and sends the first fragment. -/
def Obligations.ExchangeSendsTheFirstFragment : Prop :=
  ∀ (s : State) (apdu : ByteString), s.st = .idle → apdu.length ≤ s.cfg.apduMax →
    exec (.exchangeCmd apdu) s =
      .next (fragmentSent 0 s.ns
        { s with txBuf := apdu, txOff := 0, rxBuf := [], retry := 0, lastCause := 0x00 })

/-- R286, R287: EXCHANGE in CLOSED, in DEAD and with an oversized APDU is rejected, and no register changes. -/
def Obligations.ExchangeIsRejected : Prop :=
  ∀ (s : State) (apdu : ByteString),
    (s.st = .closed →
      exec (.exchangeCmd apdu) s = .next { s with outbox := s.outbox ++ [.result .eNotOpen 0x00 []] }) ∧
    (s.st = .dead →
      exec (.exchangeCmd apdu) s = .next { s with outbox := s.outbox ++ [.result .eDead 0x00 []] }) ∧
    (s.st = .idle → s.cfg.apduMax < apdu.length →
      exec (.exchangeCmd apdu) s = .next { s with outbox := s.outbox ++ [.result .eApduTooLong 0x00 []] })

/-- R290, R261, R286: RESYNC in IDLE sends the RESYNCH request; in CLOSED and DEAD it is rejected and no register changes. -/
def Obligations.ResyncSendsTheRequest : Prop :=
  ∀ s : State,
    (s.st = .idle → exec .resyncCmd s = .next (resyncStarted .host s)) ∧
    (s.st = .closed → exec .resyncCmd s = .next { s with outbox := s.outbox ++ [.result .eNotOpen 0x00 []] }) ∧
    (s.st = .dead → exec .resyncCmd s = .next { s with outbox := s.outbox ++ [.result .eDead 0x00 []] })

/-- R288: CANCEL while busy withdraws the read and ends the command with E_CANCELLED; `ns` and `nr` stay. -/
def Obligations.CancelEndsTheCommand : Prop :=
  ∀ s : State, busy s.st = true →
    exec .cancelBusy s = .next { s with
      txBuf := []
      txOff := 0
      rxBuf := []
      rxPending := false
      st := .idle
      outbox := s.outbox ++ [.rdCancel, .result .eCancelled 0x00 []] }

/-- R289: CANCEL while not busy has no effect. -/
def Obligations.CancelWhileNotBusyDoesNothing : Prop :=
  ∀ s : State, busy s.st = false → exec .cancelNotBusy s = .next s

/-! ### Reset -/

/-- R350: after hardware reset `st` is CLOSED, `rxPending` 0, `wtxMult` 1, `fault` NONE; it emits nothing. The same holds of
the state the machine starts in. -/
def Obligations.ResetLeavesTheEngineQuiescent : Prop :=
  (State.reset.st = .closed ∧ State.reset.rxPending = false ∧ State.reset.wtxMult = 1 ∧ State.reset.fault = .none ∧
    State.reset.outbox = []) ∧
  ∀ s : State, (hardwareReset s).st = .closed ∧ (hardwareReset s).rxPending = false ∧ (hardwareReset s).wtxMult = 1 ∧
    (hardwareReset s).fault = .none ∧ (hardwareReset s).outbox = s.outbox

/-! ### Invariants -/

/-- R44 at the reset state (CLOSED, so that it binds nothing of the session) with the conditions R44 rests on. -/
def Obligations.ResetIsSound : Prop := Sound State.reset ∧ LastTxIsTheBlockInFlight State.reset

/-- R44: every step keeps the invariants of the session. -/
def Obligations.EveryStepKeepsTheInvariant : Prop :=
  ∀ s t : State, Sound s → step s = .next t → Sound t

/-- R358: every step keeps `lastTx` the frame that a retransmission must resend in its state. -/
def Obligations.EveryStepKeepsTheBlockInFlight : Prop :=
  ∀ s t : State, Sound s → LastTxIsTheBlockInFlight s → step s = .next t → LastTxIsTheBlockInFlight t

/-! ### Rules over the whole machine -/

/-- R205: `ns` changes only by a positive acknowledgement, by the first response block, by a successful resynchronization,
and when a session is created or destroyed; `nr` only when a response block is accepted, and by the same last three. -/
def Obligations.NoSpeculativeToggling : Prop :=
  ∀ s t : State, step s = .next t →
    (t.ns ≠ s.ns → ∃ e rest i, s.inbox = e :: rest ∧ decode (decodeCtx s) e = .instr i ∧
      ((∃ n, i = .rAwaitAckAck n) ∨ (∃ b m inf, i = .iAwaitRespInSeq b m inf) ∨ i = .sResynchRespResyncing ∨
        (∃ a b c, i = .openCmd a b c) ∨ i = .closeCmd)) ∧
    (t.nr ≠ s.nr → ∃ e rest i, s.inbox = e :: rest ∧ decode (decodeCtx s) e = .instr i ∧
      ((∃ b m inf, i = .iAwaitRespInSeq b m inf) ∨ (∃ b m inf, i = .iReceivingInSeq b m inf) ∨
        i = .sResynchRespResyncing ∨ (∃ a b c, i = .openCmd a b c) ∨ i = .closeCmd))

/-- R24, R25, R26, R41: `edc` and `nad` change only by OPEN or CLOSE, `ifs` besides only by an IFS request, to its value. -/
def Obligations.SessionConfigurationIsFixed : Prop :=
  ∀ s t : State, step s = .next t →
    (t.edc ≠ s.edc ∨ t.nad ≠ s.nad → ∃ e rest i, s.inbox = e :: rest ∧ decode (decodeCtx s) e = .instr i ∧
      ((∃ a b c, i = .openCmd a b c) ∨ i = .closeCmd)) ∧
    (t.ifs ≠ s.ifs → ∃ e rest i, s.inbox = e :: rest ∧ decode (decodeCtx s) e = .instr i ∧
      ((∃ a b c, i = .openCmd a b c) ∨ i = .closeCmd ∨ i = .sIfsReq [t.ifs]))

/-- R292: a step that consumes an event without a fault emits exactly one result, unless the engine is busy afterwards or the
event was a CANCEL while not busy: then none. -/
def Obligations.OneResultPerCommand : Prop :=
  ∀ (s t : State) (e : Event) (rest : List Event), s.inbox = e :: rest → step s = .next t → t.fault = .none →
    ∃ ms, t.outbox = s.outbox ++ ms ∧
      ((busy t.st = true ∨ (busy s.st = false ∧ ∃ apdu, e = .cmd 0x00000004 apdu)) → ms.countP isResult = 0) ∧
      (busy t.st = false → ¬ (busy s.st = false ∧ ∃ apdu, e = .cmd 0x00000004 apdu) → ms.countP isResult = 1)

/-- R362, R68: a step emits at most one frame, and a result only as its last message. -/
def Obligations.MessagesLeaveInOrder : Prop :=
  ∀ s t : State, step s = .next t →
    ∃ ms, t.outbox = s.outbox ++ ms ∧ ms.countP isTx ≤ 1 ∧ ms.dropLast.countP isResult = 0

/-- R314, R108: a result with data is the OK that completes an exchange; every error result has none. -/
def Obligations.OnlyACompletedExchangeReturnsData : Prop :=
  ∀ s t : State, step s = .next t →
    ∃ ms, t.outbox = s.outbox ++ ms ∧
      ∀ st d data, .result st d data ∈ ms → data ≠ [] →
        st = .ok ∧ d = 0x00 ∧ (s.st = .awaitResp ∨ s.st = .receiving) ∧ t.st = .idle

/-- R291: a step that starts from a state that is not busy and ends in one puts nothing on the transport transmit port. -/
def Obligations.IdleCommandsSendNothing : Prop :=
  ∀ s t : State, busy s.st = false → step s = .next t → busy t.st = false →
    ∃ ms, t.outbox = s.outbox ++ ms ∧ ms.all isResult = true

/-- R36, R186, R241, R360: an awaited WTX request with a nonzero byte leaves that byte as the multiplier, every other awaited
receive event leaves 1; and every frame that asks for a reply asks for it with the multiplier so left. -/
def Obligations.WtxAppliesToTheNextReadOnly : Prop :=
  ∀ (s t : State) (r : RxEvent) (rest : List Event),
    s.inbox = .rx r :: rest → s.rxPending = true → busy s.st = true → step s = .next t →
      (∀ m : Byte, m ≠ 0 → decode (decodeCtx s) (.rx r) = .instr (.sWtxReq [m]) → t.wtxMult = m) ∧
      ((∀ m : Byte, m ≠ 0 → decode (decodeCtx s) (.rx r) ≠ .instr (.sWtxReq [m])) → t.wtxMult = 1) ∧
      ∃ ms, t.outbox = s.outbox ++ ms ∧ ∀ f m, .tx f m ∈ ms → m ≠ 0 → m = t.wtxMult

/-- R35, R38: after a step that consumed an event without a fault, a read is pending exactly when the step asked for one. -/
def Obligations.AReadIsPendingExactlyWhenRequested : Prop :=
  ∀ (s t : State) (e : Event) (rest : List Event), Sound s → s.inbox = e :: rest → step s = .next t → t.fault = .none →
    ∃ ms, t.outbox = s.outbox ++ ms ∧ (t.rxPending = true ↔ ∃ f m, .tx f m ∈ ms ∧ m ≠ 0)

/-- R96, R93: every frame the engine emits has from 3 + edcLen to 3 + 254 + edcLen bytes. -/
def Obligations.EmittedFramesHaveLegalLength : Prop :=
  ∀ s t : State, Sound s → LastTxIsTheBlockInFlight s → step s = .next t →
    ∃ ms, t.outbox = s.outbox ++ ms ∧
      ∀ f m, .tx f m ∈ ms → 3 + edcLen s.edc ≤ f.length ∧ f.length ≤ 3 + 254 + edcLen s.edc

/-- R209, R184: while an exchange goes on, a step either leaves `retry` as it is, or counts one error, stays in its control
state and resends the last frame. -/
def Obligations.CountedErrorResendsTheLastFrame : Prop :=
  ∀ s t : State, inExchange s.st = true → step s = .next t → inExchange t.st = true →
    t.retry = s.retry ∨
    (t.retry = s.retry + 1 ∧ t.st = s.st ∧ t.lastTx = s.lastTx ∧ t.ns = s.ns ∧ t.nr = s.nr ∧ t.rxBuf = s.rxBuf ∧
      t.txOff = s.txOff ∧ t.outbox = s.outbox ++ [.tx s.lastTx 1])

/-- R266, R282, R284: DEAD is left only by OPEN or CLOSE. -/
def Obligations.DeadIsLeftOnlyByOpenOrClose : Prop :=
  ∀ s t : State, s.st = .dead → step s = .next t → t.st ≠ .dead →
    ∃ w apdu rest, s.inbox = .cmd w apdu :: rest ∧
      ((t.st = .idle ∧ ∃ a b c, decodeCommand false w apdu = some (.openCmd a b c)) ∨
        (t.st = .closed ∧ w = 0x00000002))

/-! ### Runs -/

/-- R206, R207, R208: with `ifs` constant and nothing lost, an APDU is sent in max(1, ceil(n / ifs)) I-blocks whose INF fields
concatenate to it; all but the last have M = 1, and N(S) alternates from `ns`. -/
def Obligations.FragmentsCarryTheWholeApdu : Prop :=
  ∀ (s : State) (apdu : ByteString) (nad : Byte),
    s.fault = .none → s.st = .idle → s.cfg.Legal → 1 ≤ s.ifs.toNat → apdu.length ≤ s.cfg.apduMax →
    let k := fragmentCount apdu.length s.ifs.toNat
    let frag := fun j => (apdu.drop (j * s.ifs.toNat)).take s.ifs.toNat
    s.inbox = .cmd 0x00000003 apdu :: (List.range (k - 1)).map (fun j =>
      .rx (.frame (mkFrame s.cfg.crc16Fn s.edc nad (ackByte (seqBit s.ns (j + 1))) []))) →
      ((List.range k).map frag).flatten = apdu ∧
      ∃ t, RunsTo k s t ∧ t.st = .awaitResp ∧ t.inbox = [] ∧
        t.outbox = s.outbox ++ (List.range k).map (fun j =>
          .tx (mkFrame s.cfg.crc16Fn s.edc s.nad (infoByte (seqBit s.ns j) (decide (j + 1 < k))) (frag j)) 1)

/-- R63, R67, R199 to R202: a response sent in in-sequence I-blocks is acknowledged block by block, and the result carries the
concatenation of their INF fields. -/
def Obligations.ResponseIsTheConcatenation : Prop :=
  ∀ (s : State) (infs : List ByteString) (nad : Byte),
    s.fault = .none → s.st = .awaitResp → s.rxPending = true → s.rxBuf = [] → infs ≠ [] →
    (∀ x ∈ infs, x.length ≤ 255) → infs.flatten.length ≤ s.cfg.respMax →
    s.inbox = infs.mapIdx (fun j x =>
      .rx (.frame (mkFrame s.cfg.crc16Fn s.edc nad (infoByte (seqBit s.nr j) (decide (j + 1 < infs.length))) x))) →
      ∃ t, RunsTo infs.length s t ∧ t.st = .idle ∧ t.ns = (!s.ns) ∧ t.nr = seqBit s.nr infs.length ∧
        t.outbox = s.outbox ++ (List.range (infs.length - 1)).map (fun j =>
            .tx (mkFrame s.cfg.crc16Fn s.edc s.nad (ackByte (seqBit s.nr (j + 1))) []) 1) ++
          [.result .ok 0x00 infs.flatten]

/-- R209, R185, R190, R210: a channel that corrupts every reply, each in its own way (a wrong checksum or a LEN that disagrees
with the frame's length), makes the engine resend exactly `RETRY_MAX` times and then abort with E_RETRY_EXCEEDED, detail 0x10. -/
def Obligations.CorruptChannelExhaustsTheRetryBound : Prop :=
  ∀ (s : State) (fs : List ByteString),
    s.fault = .none → inExchange s.st = true → s.rxPending = true → s.retry = 0 → s.cfg.Legal →
    s.cfg.autoResync = false → fs.length = s.cfg.retryMax + 1 →
    (∀ f ∈ fs, decodeFrame s.cfg.crc16Fn s.edc f = .checksumEdc ∨
      decodeFrame s.cfg.crc16Fn s.edc f = .checksumLength) →
    s.inbox = fs.map (fun f => .rx (.frame f)) →
      ∃ t, RunsTo (s.cfg.retryMax + 1) s t ∧ t.st = .idle ∧ t.ns = s.ns ∧ t.nr = s.nr ∧
        t.outbox = s.outbox ++ List.replicate s.cfg.retryMax (.tx s.lastTx 1) ++ [.result .eRetryExceeded 0x10 []]

/-- R356: after a timeout the engine accepts the card's late answer as the response of the next exchange. -/
def Obligations.LateReplyAnswersTheNextExchange : Prop :=
  ∀ (s : State) (apdu x : ByteString) (nad : Byte),
    s.fault = .none → s.st = .awaitResp → s.rxPending = true → apdu.length ≤ s.cfg.apduMax →
    apdu.length ≤ s.ifs.toNat → x.length ≤ 255 → x.length ≤ s.cfg.respMax →
    s.inbox = [.rx .timeout, .cmd 0x00000003 apdu,
      .rx (.frame (mkFrame s.cfg.crc16Fn s.edc nad (infoByte s.nr false) x))] →
      ∃ t, RunsTo 3 s t ∧ t.st = .idle ∧ t.ns = (!s.ns) ∧ t.nr = (!s.nr) ∧
        t.outbox = s.outbox ++ [.result .eTimeout 0x00 [],
          .tx (mkFrame s.cfg.crc16Fn s.edc s.nad (infoByte s.ns false) apdu) 1, .result .ok 0x00 x]
end

