-- ==== Sys2Proof/Laws/Codec.lean ====
section
/-! SUPPORT. The codec: lengths, the frame a decoder reads back, PCBs and command words. -/

namespace Sys2Proof

open Machine

theorem edcLen_pos (mode : Edc) : 1 ≤ edcLen mode := by cases mode <;> decide

@[simp] theorem checksum_length (fn : CrcFn) (mode : Edc) (s : ByteString) :
    (checksum fn mode s).length = edcLen mode := by
  cases mode <;> rfl

@[simp] theorem mkFrame_length (fn : CrcFn) (mode : Edc) (nad pcb : Byte) (inf : ByteString) :
    (mkFrame fn mode nad pcb inf).length = 3 + inf.length + edcLen mode := by
  simp [mkFrame]
  omega

/-- A frame ends in the checksum of what stands before it (R137). -/
theorem verify_append_checksum (fn : CrcFn) (mode : Edc) (body : ByteString) :
    verify fn mode (body ++ checksum fn mode body) = true := by
  have h : (body ++ checksum fn mode body).length - edcLen mode = body.length := by simp
  simp [verify]

theorem verify_mkFrame (fn : CrcFn) (mode : Edc) (nad pcb : Byte) (inf : ByteString) :
    verify fn mode (mkFrame fn mode nad pcb inf) = true :=
  verify_append_checksum fn mode _

/-- The decoder reads a constructed frame as the class of its PCB with its INF (R151 to R154, R161). -/
theorem decodeFrame_mkFrame (fn : CrcFn) (mode : Edc) (nad pcb : Byte) (inf : ByteString) (h : inf.length ≤ 255) :
    decodeFrame fn mode (mkFrame fn mode nad pcb inf) = .ok (classify pcb inf) := by
  have hlen : (BitVec.ofNat 8 inf.length).toNat = inf.length := by
    simp only [BitVec.toNat_ofNat]
    omega
  have h2 : ((mkFrame fn mode nad pcb inf).getD 2 0).toNat = inf.length := by
    simpa [mkFrame] using hlen
  have h1 : (mkFrame fn mode nad pcb inf).getD 1 0 = pcb := by simp [mkFrame]
  have h3 : ((mkFrame fn mode nad pcb inf).drop 3).take inf.length = inf := by simp [mkFrame]
  unfold decodeFrame
  simp only [h1, h2, h3, mkFrame_length, verify_mkFrame]
  rw [if_neg (by omega), if_neg (by omega)]
  simp

/-- A decoded frame has its minimum length and the length its LEN byte says, and its checksum is right (R151 to R153). -/
theorem decodeFrame_eq_ok {fn : CrcFn} {mode : Edc} {f : ByteString} {b : Block} (h : decodeFrame fn mode f = .ok b) :
    f.length = 3 + (f.getD 2 0).toNat + edcLen mode ∧ verify fn mode f = true ∧
      b = classify (f.getD 1 0) ((f.drop 3).take (f.getD 2 0).toNat) := by
  unfold decodeFrame at h
  split at h
  · cases h
  · simp only at h
    split at h
    · cases h
    · split at h
      · cases h
      · rename_i h1 h2 h3
        refine ⟨by omega, by simpa using h3, ?_⟩
        cases h
        rfl

/-! ### PCBs -/

theorem classify_infoPcb (s m : Bool) (inf : ByteString) : classify (infoPcb s m) inf = .info s m inf := by
  cases s <;> cases m <;> rfl

theorem classify_readyPcb (n : Bool) (err : BitVec 4) (inf : ByteString) :
    classify (readyPcb n err) inf = .ready n err := by
  revert n err
  have h : ∀ (n : Bool) (err : BitVec 4), readyPcb n err &&& 0x80 ≠ 0x00 ∧ readyPcb n err &&& 0xC0 ≠ 0xC0 ∧
      (readyPcb n err).getLsbD 4 = n ∧ (readyPcb n err).extractLsb' 0 4 = err := by decide
  intro n err
  obtain ⟨h1, h2, h3, h4⟩ := h n err
  rw [classify, if_neg h1, if_neg h2, h3, h4]

theorem classify_supervisoryPcb (resp : Bool) (type : BitVec 5) (sinf : ByteString) :
    classify (supervisoryPcb resp type) sinf = .supervisory resp type sinf := by
  have h : ∀ (resp : Bool) (type : BitVec 5), supervisoryPcb resp type &&& 0x80 ≠ 0x00 ∧
      supervisoryPcb resp type &&& 0xC0 = 0xC0 ∧ (supervisoryPcb resp type).getLsbD 5 = resp ∧
      (supervisoryPcb resp type).extractLsb' 0 5 = type := by decide
  obtain ⟨h1, h2, h3, h4⟩ := h resp type
  rw [classify, if_neg h1, if_pos h2, h3, h4]

/-- The PCB of a block is read back as that block (R98 to R100, R155 to R157). -/
theorem classify_blockPcb (b : Block) : classify (blockPcb b) (blockInf b) = b := by
  cases b with
  | info s m inf => exact classify_infoPcb s m inf
  | ready n err => exact classify_readyPcb n err []
  | supervisory resp type sinf => exact classify_supervisoryPcb resp type sinf

theorem blockInf_length {b : Block} (h : b.wellFormed = true) : (blockInf b).length ≤ 255 := by
  cases b <;> simp_all [Block.wellFormed, blockInf, infFits]

/-- Decoding the frame of a well-formed block gives the block (R166). -/
theorem decodeFrame_encodeBlock (c : DecodeCtx) (nad : Byte) (b : Block) (h : b.wellFormed = true) :
    decodeFrame c.crc16Fn c.edc (encodeBlock c nad b) = .ok b := by
  rw [encodeBlock, decodeFrame_mkFrame _ _ _ _ _ (blockInf_length h), classify_blockPcb]

/-- What `classify` makes of a body that fits is a well-formed block. -/
theorem classify_wellFormed (pcb : Byte) (body : ByteString) (h : body.length ≤ 255) :
    (classify pcb body).wellFormed = true := by
  unfold classify
  split
  · simpa [Block.wellFormed, infFits] using h
  · split
    · simpa [Block.wellFormed, infFits] using h
    · rfl

/-- A decoded block is well-formed: LEN is one byte (R8, R90). -/
theorem decodeFrame_wellFormed {fn : CrcFn} {mode : Edc} {f : ByteString} {b : Block}
    (h : decodeFrame fn mode f = .ok b) : b.wellFormed = true := by
  obtain ⟨-, -, rfl⟩ := decodeFrame_eq_ok h
  apply classify_wellFormed
  have := (f.getD 2 0).isLt
  simp only [List.length_take]
  omega

/-! ### Command words -/

theorem openWord_mask (cedc : Bool) (cnad cifs : Byte) : openWord cedc cnad cifs &&& 0xFF0000EF = 0x00000001 := by
  ext i hi
  unfold openWord
  interval_cases i <;> simp

theorem openWord_cedc (cedc : Bool) (cnad cifs : Byte) : (openWord cedc cnad cifs).getLsbD 4 = cedc := by
  simp [openWord]

theorem openWord_cnad (cedc : Bool) (cnad cifs : Byte) : (openWord cedc cnad cifs).extractLsb' 8 8 = cnad := by
  ext i hi
  unfold openWord
  interval_cases i <;> simp

theorem openWord_cifs (cedc : Bool) (cnad cifs : Byte) : (openWord cedc cnad cifs).extractLsb' 16 8 = cifs := by
  ext i hi
  unfold openWord
  interval_cases i <;> simp

/-- An OPEN word is read back with its operands (R107). -/
theorem decodeCommand_openWord (isBusy : Bool) (cedc : Bool) (cnad cifs : Byte) (apdu : ByteString) :
    decodeCommand isBusy (openWord cedc cnad cifs) apdu = some (.openCmd cedc cnad cifs) := by
  rw [decodeCommand, if_pos (openWord_mask _ _ _), openWord_cedc, openWord_cnad, openWord_cifs]

/-- What a command word decodes to is one of the six command rows (R107, R111). -/
theorem decodeCommand_cases {isBusy : Bool} {w : CommandWord} {apdu : ByteString} {i : Instr}
    (h : decodeCommand isBusy w apdu = some i) :
    (∃ cedc cnad cifs, i = .openCmd cedc cnad cifs ∧ w &&& 0xFF0000EF = 0x00000001) ∨
    (i = .closeCmd ∧ w = 0x00000002) ∨ (i = .exchangeCmd apdu ∧ w = 0x00000003) ∨
    (i = .cancelBusy ∧ w = 0x00000004 ∧ isBusy = true) ∨
    (i = .cancelNotBusy ∧ w = 0x00000004 ∧ isBusy = false) ∨ (i = .resyncCmd ∧ w = 0x00000005) := by
  unfold decodeCommand at h
  split_ifs at h with h1 h2 h3 h4 h5 h6 <;> cases h
  · exact .inl ⟨_, _, _, rfl, h1⟩
  · exact .inr (.inl ⟨rfl, h2⟩)
  · exact .inr (.inr (.inl ⟨rfl, h3⟩))
  · exact .inr (.inr (.inr (.inl ⟨rfl, h4, h5⟩)))
  · exact .inr (.inr (.inr (.inr (.inl ⟨rfl, h4, by simpa using h5⟩))))
  · exact .inr (.inr (.inr (.inr (.inr ⟨rfl, h6⟩))))

end Sys2Proof
end

