-- ==== Sys2Proof/Laws/State.lean ====
section
/-! SUPPORT. The fields of each straight-line update of the state: one lemma per field per update, true by `rfl`, so that no
proof unfolds an update. -/

namespace Sys2Proof.Machine

variable (s : State)

/-! ### `emit` -/

@[simp] theorem emit_st (m : Message) : (emit m s).st = s.st := rfl
@[simp] theorem emit_edc (m : Message) : (emit m s).edc = s.edc := rfl
@[simp] theorem emit_nad (m : Message) : (emit m s).nad = s.nad := rfl
@[simp] theorem emit_ifs (m : Message) : (emit m s).ifs = s.ifs := rfl
@[simp] theorem emit_ns (m : Message) : (emit m s).ns = s.ns := rfl
@[simp] theorem emit_nr (m : Message) : (emit m s).nr = s.nr := rfl
@[simp] theorem emit_retry (m : Message) : (emit m s).retry = s.retry := rfl
@[simp] theorem emit_txBuf (m : Message) : (emit m s).txBuf = s.txBuf := rfl
@[simp] theorem emit_txOff (m : Message) : (emit m s).txOff = s.txOff := rfl
@[simp] theorem emit_fragLen (m : Message) : (emit m s).fragLen = s.fragLen := rfl
@[simp] theorem emit_rxBuf (m : Message) : (emit m s).rxBuf = s.rxBuf := rfl
@[simp] theorem emit_lastTx (m : Message) : (emit m s).lastTx = s.lastTx := rfl
@[simp] theorem emit_lastCause (m : Message) : (emit m s).lastCause = s.lastCause := rfl
@[simp] theorem emit_rxPending (m : Message) : (emit m s).rxPending = s.rxPending := rfl
@[simp] theorem emit_wtxMult (m : Message) : (emit m s).wtxMult = s.wtxMult := rfl
@[simp] theorem emit_origin (m : Message) : (emit m s).origin = s.origin := rfl
@[simp] theorem emit_fault (m : Message) : (emit m s).fault = s.fault := rfl
@[simp] theorem emit_cfg (m : Message) : (emit m s).cfg = s.cfg := rfl
@[simp] theorem emit_inbox (m : Message) : (emit m s).inbox = s.inbox := rfl
@[simp] theorem emit_outbox (m : Message) : (emit m s).outbox = s.outbox ++ [m] := rfl
@[simp] theorem emit_freeCount (m : Message) : (emit m s).freeCount = s.freeCount := rfl

/-! ### `rxPrologue` -/

@[simp] theorem rxPrologue_st : (rxPrologue s).st = s.st := rfl
@[simp] theorem rxPrologue_edc : (rxPrologue s).edc = s.edc := rfl
@[simp] theorem rxPrologue_nad : (rxPrologue s).nad = s.nad := rfl
@[simp] theorem rxPrologue_ifs : (rxPrologue s).ifs = s.ifs := rfl
@[simp] theorem rxPrologue_ns : (rxPrologue s).ns = s.ns := rfl
@[simp] theorem rxPrologue_nr : (rxPrologue s).nr = s.nr := rfl
@[simp] theorem rxPrologue_retry : (rxPrologue s).retry = s.retry := rfl
@[simp] theorem rxPrologue_txBuf : (rxPrologue s).txBuf = s.txBuf := rfl
@[simp] theorem rxPrologue_txOff : (rxPrologue s).txOff = s.txOff := rfl
@[simp] theorem rxPrologue_fragLen : (rxPrologue s).fragLen = s.fragLen := rfl
@[simp] theorem rxPrologue_rxBuf : (rxPrologue s).rxBuf = s.rxBuf := rfl
@[simp] theorem rxPrologue_lastTx : (rxPrologue s).lastTx = s.lastTx := rfl
@[simp] theorem rxPrologue_lastCause : (rxPrologue s).lastCause = s.lastCause := rfl
@[simp] theorem rxPrologue_rxPending : (rxPrologue s).rxPending = false := rfl
@[simp] theorem rxPrologue_wtxMult : (rxPrologue s).wtxMult = 1 := rfl
@[simp] theorem rxPrologue_origin : (rxPrologue s).origin = s.origin := rfl
@[simp] theorem rxPrologue_fault : (rxPrologue s).fault = s.fault := rfl
@[simp] theorem rxPrologue_cfg : (rxPrologue s).cfg = s.cfg := rfl
@[simp] theorem rxPrologue_inbox : (rxPrologue s).inbox = s.inbox := rfl
@[simp] theorem rxPrologue_outbox : (rxPrologue s).outbox = s.outbox := rfl
@[simp] theorem rxPrologue_freeCount : (rxPrologue s).freeCount = s.freeCount := rfl

/-! ### `transmit` -/

@[simp] theorem transmit_st (f : ByteString) : (transmit f s).st = s.st := rfl
@[simp] theorem transmit_edc (f : ByteString) : (transmit f s).edc = s.edc := rfl
@[simp] theorem transmit_nad (f : ByteString) : (transmit f s).nad = s.nad := rfl
@[simp] theorem transmit_ifs (f : ByteString) : (transmit f s).ifs = s.ifs := rfl
@[simp] theorem transmit_ns (f : ByteString) : (transmit f s).ns = s.ns := rfl
@[simp] theorem transmit_nr (f : ByteString) : (transmit f s).nr = s.nr := rfl
@[simp] theorem transmit_retry (f : ByteString) : (transmit f s).retry = s.retry := rfl
@[simp] theorem transmit_txBuf (f : ByteString) : (transmit f s).txBuf = s.txBuf := rfl
@[simp] theorem transmit_txOff (f : ByteString) : (transmit f s).txOff = s.txOff := rfl
@[simp] theorem transmit_fragLen (f : ByteString) : (transmit f s).fragLen = s.fragLen := rfl
@[simp] theorem transmit_rxBuf (f : ByteString) : (transmit f s).rxBuf = s.rxBuf := rfl
@[simp] theorem transmit_lastTx (f : ByteString) : (transmit f s).lastTx = f := rfl
@[simp] theorem transmit_lastCause (f : ByteString) : (transmit f s).lastCause = s.lastCause := rfl
@[simp] theorem transmit_rxPending (f : ByteString) : (transmit f s).rxPending = true := rfl
@[simp] theorem transmit_wtxMult (f : ByteString) : (transmit f s).wtxMult = 1 := rfl
@[simp] theorem transmit_origin (f : ByteString) : (transmit f s).origin = s.origin := rfl
@[simp] theorem transmit_fault (f : ByteString) : (transmit f s).fault = s.fault := rfl
@[simp] theorem transmit_cfg (f : ByteString) : (transmit f s).cfg = s.cfg := rfl
@[simp] theorem transmit_inbox (f : ByteString) : (transmit f s).inbox = s.inbox := rfl
@[simp] theorem transmit_outbox (f : ByteString) : (transmit f s).outbox = s.outbox ++ [.tx f 1] := rfl
@[simp] theorem transmit_freeCount (f : ByteString) : (transmit f s).freeCount = s.freeCount := rfl

/-! ### `retransmit` -/

@[simp] theorem retransmit_st : (retransmit s).st = s.st := rfl
@[simp] theorem retransmit_edc : (retransmit s).edc = s.edc := rfl
@[simp] theorem retransmit_nad : (retransmit s).nad = s.nad := rfl
@[simp] theorem retransmit_ifs : (retransmit s).ifs = s.ifs := rfl
@[simp] theorem retransmit_ns : (retransmit s).ns = s.ns := rfl
@[simp] theorem retransmit_nr : (retransmit s).nr = s.nr := rfl
@[simp] theorem retransmit_retry : (retransmit s).retry = s.retry := rfl
@[simp] theorem retransmit_txBuf : (retransmit s).txBuf = s.txBuf := rfl
@[simp] theorem retransmit_txOff : (retransmit s).txOff = s.txOff := rfl
@[simp] theorem retransmit_fragLen : (retransmit s).fragLen = s.fragLen := rfl
@[simp] theorem retransmit_rxBuf : (retransmit s).rxBuf = s.rxBuf := rfl
@[simp] theorem retransmit_lastTx : (retransmit s).lastTx = s.lastTx := rfl
@[simp] theorem retransmit_lastCause : (retransmit s).lastCause = s.lastCause := rfl
@[simp] theorem retransmit_rxPending : (retransmit s).rxPending = true := rfl
@[simp] theorem retransmit_wtxMult : (retransmit s).wtxMult = 1 := rfl
@[simp] theorem retransmit_origin : (retransmit s).origin = s.origin := rfl
@[simp] theorem retransmit_fault : (retransmit s).fault = s.fault := rfl
@[simp] theorem retransmit_cfg : (retransmit s).cfg = s.cfg := rfl
@[simp] theorem retransmit_inbox : (retransmit s).inbox = s.inbox := rfl
@[simp] theorem retransmit_outbox : (retransmit s).outbox = s.outbox ++ [.tx s.lastTx 1] := rfl
@[simp] theorem retransmit_freeCount : (retransmit s).freeCount = s.freeCount := rfl

/-! ### `abort` -/

@[simp] theorem abort_st (code : Status) (detail : Byte) : (abort code detail s).st = .idle := rfl
@[simp] theorem abort_edc (code : Status) (detail : Byte) : (abort code detail s).edc = s.edc := rfl
@[simp] theorem abort_nad (code : Status) (detail : Byte) : (abort code detail s).nad = s.nad := rfl
@[simp] theorem abort_ifs (code : Status) (detail : Byte) : (abort code detail s).ifs = s.ifs := rfl
@[simp] theorem abort_ns (code : Status) (detail : Byte) : (abort code detail s).ns = s.ns := rfl
@[simp] theorem abort_nr (code : Status) (detail : Byte) : (abort code detail s).nr = s.nr := rfl
@[simp] theorem abort_retry (code : Status) (detail : Byte) : (abort code detail s).retry = s.retry := rfl
@[simp] theorem abort_txBuf (code : Status) (detail : Byte) : (abort code detail s).txBuf = [] := rfl
@[simp] theorem abort_txOff (code : Status) (detail : Byte) : (abort code detail s).txOff = 0 := rfl
@[simp] theorem abort_fragLen (code : Status) (detail : Byte) : (abort code detail s).fragLen = s.fragLen := rfl
@[simp] theorem abort_rxBuf (code : Status) (detail : Byte) : (abort code detail s).rxBuf = [] := rfl
@[simp] theorem abort_lastTx (code : Status) (detail : Byte) : (abort code detail s).lastTx = s.lastTx := rfl
@[simp] theorem abort_lastCause (code : Status) (detail : Byte) : (abort code detail s).lastCause = s.lastCause := rfl
@[simp] theorem abort_rxPending (code : Status) (detail : Byte) : (abort code detail s).rxPending = false := rfl
@[simp] theorem abort_wtxMult (code : Status) (detail : Byte) : (abort code detail s).wtxMult = s.wtxMult := rfl
@[simp] theorem abort_origin (code : Status) (detail : Byte) : (abort code detail s).origin = s.origin := rfl
@[simp] theorem abort_fault (code : Status) (detail : Byte) : (abort code detail s).fault = s.fault := rfl
@[simp] theorem abort_cfg (code : Status) (detail : Byte) : (abort code detail s).cfg = s.cfg := rfl
@[simp] theorem abort_inbox (code : Status) (detail : Byte) : (abort code detail s).inbox = s.inbox := rfl
@[simp] theorem abort_outbox (code : Status) (detail : Byte) : (abort code detail s).outbox = s.outbox ++ [.result code detail []] := rfl
@[simp] theorem abort_freeCount (code : Status) (detail : Byte) : (abort code detail s).freeCount = s.freeCount := rfl

/-! ### `raiseFault` -/

@[simp] theorem raiseFault_st (kind : FaultKind) : (raiseFault kind s).st = s.st := rfl
@[simp] theorem raiseFault_edc (kind : FaultKind) : (raiseFault kind s).edc = s.edc := rfl
@[simp] theorem raiseFault_nad (kind : FaultKind) : (raiseFault kind s).nad = s.nad := rfl
@[simp] theorem raiseFault_ifs (kind : FaultKind) : (raiseFault kind s).ifs = s.ifs := rfl
@[simp] theorem raiseFault_ns (kind : FaultKind) : (raiseFault kind s).ns = s.ns := rfl
@[simp] theorem raiseFault_nr (kind : FaultKind) : (raiseFault kind s).nr = s.nr := rfl
@[simp] theorem raiseFault_retry (kind : FaultKind) : (raiseFault kind s).retry = s.retry := rfl
@[simp] theorem raiseFault_txBuf (kind : FaultKind) : (raiseFault kind s).txBuf = s.txBuf := rfl
@[simp] theorem raiseFault_txOff (kind : FaultKind) : (raiseFault kind s).txOff = s.txOff := rfl
@[simp] theorem raiseFault_fragLen (kind : FaultKind) : (raiseFault kind s).fragLen = s.fragLen := rfl
@[simp] theorem raiseFault_rxBuf (kind : FaultKind) : (raiseFault kind s).rxBuf = s.rxBuf := rfl
@[simp] theorem raiseFault_lastTx (kind : FaultKind) : (raiseFault kind s).lastTx = s.lastTx := rfl
@[simp] theorem raiseFault_lastCause (kind : FaultKind) : (raiseFault kind s).lastCause = s.lastCause := rfl
@[simp] theorem raiseFault_rxPending (kind : FaultKind) : (raiseFault kind s).rxPending = s.rxPending := rfl
@[simp] theorem raiseFault_wtxMult (kind : FaultKind) : (raiseFault kind s).wtxMult = s.wtxMult := rfl
@[simp] theorem raiseFault_origin (kind : FaultKind) : (raiseFault kind s).origin = s.origin := rfl
@[simp] theorem raiseFault_fault (kind : FaultKind) : (raiseFault kind s).fault = kind := rfl
@[simp] theorem raiseFault_cfg (kind : FaultKind) : (raiseFault kind s).cfg = s.cfg := rfl
@[simp] theorem raiseFault_inbox (kind : FaultKind) : (raiseFault kind s).inbox = s.inbox := rfl
@[simp] theorem raiseFault_outbox (kind : FaultKind) : (raiseFault kind s).outbox = s.outbox := rfl
@[simp] theorem raiseFault_freeCount (kind : FaultKind) : (raiseFault kind s).freeCount = s.freeCount := rfl

/-! ### `complete` -/

@[simp] theorem complete_st : (complete s).st = .idle := rfl
@[simp] theorem complete_edc : (complete s).edc = s.edc := rfl
@[simp] theorem complete_nad : (complete s).nad = s.nad := rfl
@[simp] theorem complete_ifs : (complete s).ifs = s.ifs := rfl
@[simp] theorem complete_ns : (complete s).ns = s.ns := rfl
@[simp] theorem complete_nr : (complete s).nr = s.nr := rfl
@[simp] theorem complete_retry : (complete s).retry = s.retry := rfl
@[simp] theorem complete_txBuf : (complete s).txBuf = [] := rfl
@[simp] theorem complete_txOff : (complete s).txOff = s.txOff := rfl
@[simp] theorem complete_fragLen : (complete s).fragLen = s.fragLen := rfl
@[simp] theorem complete_rxBuf : (complete s).rxBuf = [] := rfl
@[simp] theorem complete_lastTx : (complete s).lastTx = s.lastTx := rfl
@[simp] theorem complete_lastCause : (complete s).lastCause = s.lastCause := rfl
@[simp] theorem complete_rxPending : (complete s).rxPending = s.rxPending := rfl
@[simp] theorem complete_wtxMult : (complete s).wtxMult = s.wtxMult := rfl
@[simp] theorem complete_origin : (complete s).origin = s.origin := rfl
@[simp] theorem complete_fault : (complete s).fault = s.fault := rfl
@[simp] theorem complete_cfg : (complete s).cfg = s.cfg := rfl
@[simp] theorem complete_inbox : (complete s).inbox = s.inbox := rfl
@[simp] theorem complete_outbox : (complete s).outbox = s.outbox ++ [.result .ok 0x00 s.rxBuf] := rfl
@[simp] theorem complete_freeCount : (complete s).freeCount = s.freeCount := rfl

/-! ### `startResync` -/

@[simp] theorem startResync_st (o : Origin) : (startResync o s).st = .resyncing := rfl
@[simp] theorem startResync_edc (o : Origin) : (startResync o s).edc = s.edc := rfl
@[simp] theorem startResync_nad (o : Origin) : (startResync o s).nad = s.nad := rfl
@[simp] theorem startResync_ifs (o : Origin) : (startResync o s).ifs = s.ifs := rfl
@[simp] theorem startResync_ns (o : Origin) : (startResync o s).ns = s.ns := rfl
@[simp] theorem startResync_nr (o : Origin) : (startResync o s).nr = s.nr := rfl
@[simp] theorem startResync_retry (o : Origin) : (startResync o s).retry = 0 := rfl
@[simp] theorem startResync_txBuf (o : Origin) : (startResync o s).txBuf = [] := rfl
@[simp] theorem startResync_txOff (o : Origin) : (startResync o s).txOff = 0 := rfl
@[simp] theorem startResync_fragLen (o : Origin) : (startResync o s).fragLen = s.fragLen := rfl
@[simp] theorem startResync_rxBuf (o : Origin) : (startResync o s).rxBuf = [] := rfl
@[simp] theorem startResync_lastTx (o : Origin) : (startResync o s).lastTx = encodeSResync s.cfg.crc16Fn s.edc s.nad := rfl
@[simp] theorem startResync_lastCause (o : Origin) : (startResync o s).lastCause = s.lastCause := rfl
@[simp] theorem startResync_rxPending (o : Origin) : (startResync o s).rxPending = true := rfl
@[simp] theorem startResync_wtxMult (o : Origin) : (startResync o s).wtxMult = 1 := rfl
@[simp] theorem startResync_origin (o : Origin) : (startResync o s).origin = o := rfl
@[simp] theorem startResync_fault (o : Origin) : (startResync o s).fault = s.fault := rfl
@[simp] theorem startResync_cfg (o : Origin) : (startResync o s).cfg = s.cfg := rfl
@[simp] theorem startResync_inbox (o : Origin) : (startResync o s).inbox = s.inbox := rfl
@[simp] theorem startResync_outbox (o : Origin) : (startResync o s).outbox = s.outbox ++ [.tx (encodeSResync s.cfg.crc16Fn s.edc s.nad) 1] := rfl
@[simp] theorem startResync_freeCount (o : Origin) : (startResync o s).freeCount = s.freeCount := rfl

end Sys2Proof.Machine
end

