-- ==== Sys2Proof/Laws/Ops.lean ====
section
/-! SUPPORT. The shared procedures: one lemma each that says all it can do, in the words of Safety.lean, so that a proof cites
it and does not unfold the procedure. -/

namespace Sys2Proof.Machine

/-! ### Frames the engine sends -/

theorem encodeR_eq (fn : CrcFn) (mode : Edc) (nad : Byte) (n : Bool) :
    encodeR fn mode nad n = mkFrame fn mode nad (if n then 0x90 else 0x80) [] := by
  cases n <;> rfl

theorem encodeI_eq (fn : CrcFn) (mode : Edc) (nad : Byte) (s m : Bool) (frag : ByteString) :
    encodeI fn mode nad s m frag =
      mkFrame fn mode nad ((if s then 0x40 else 0x00) ||| (if m then 0x20 else 0x00)) frag := by
  cases s <;> cases m <;> rfl

theorem encodeSResync_eq (fn : CrcFn) (mode : Edc) (nad : Byte) :
    encodeSResync fn mode nad = mkFrame fn mode nad 0xC0 [] := rfl

/-! ### Straight-line procedures -/

theorem retransmit_eq (s : State) : retransmit s = resent s := rfl

theorem abort_eq (code : Status) (detail : Byte) (s : State) : abort code detail s = aborted code detail s := rfl

theorem startResync_eq (o : Origin) (s : State) : startResync o s = resyncStarted o s := rfl

/-! ### Procedures with cases -/

/-- `Recoverable(cause)` (R185, R210). -/
theorem recoverable_spec (cause : BitVec 7) (s : State) : Recovered cause s (recoverable cause s) := by
  refine ⟨fun h => ?_, fun h ha => ?_, fun h ha => ?_⟩
  · simp only [recoverable, if_neg (Nat.not_lt.mpr h)]
    rfl
  · simp only [recoverable, if_pos h, retryExhausted, ha]
    rfl
  · simp only [recoverable, if_pos h, retryExhausted, ha]
    rfl

/-- `Recoverable(cause)` ends in exactly one of three ways (R185, R210). -/
theorem recovered_cases {cause : BitVec 7} {s t : State} (h : Recovered cause s t) :
    (s.retry.toNat + 1 ≤ s.cfg.retryMax ∧ t = resent { s with retry := s.retry + 1, lastCause := cause }) ∨
    (s.cfg.retryMax < s.retry.toNat + 1 ∧ s.cfg.autoResync = false ∧
      t = aborted .eRetryExceeded (cause.setWidth 8) { s with retry := s.retry + 1, lastCause := cause }) ∨
    (s.cfg.retryMax < s.retry.toNat + 1 ∧ s.cfg.autoResync = true ∧ t = resyncStarted .auto { s with lastCause := cause }) := by
  obtain ⟨h1, h2, h3⟩ := h
  by_cases hb : s.retry.toNat + 1 ≤ s.cfg.retryMax
  · exact .inl ⟨hb, h1 hb⟩
  · have hb' := Nat.lt_of_not_le hb
    cases ha : s.cfg.autoResync
    · exact .inr (.inl ⟨hb', rfl, h2 hb' ha⟩)
    · exact .inr (.inr ⟨hb', rfl, h3 hb' ha⟩)

/-- `SendFragment()` (R182): the fragment cut at `txOff` goes out with `ns`. -/
theorem sendFragment_eq (s : State) : sendFragment s = fragmentSent s.txOff.toNat s.ns s := by
  simp only [sendFragment, fragmentSent, encodeI_eq, moreFollows, nextFragLen, memRead]
  rfl

/-- `Accept(m, inf)` (R201, R202). -/
theorem accept_spec (m : Bool) (inf : ByteString) (s : State) : Accepted m inf s (accept m inf s) := by
  refine ⟨fun h => ?_, fun h hm => ?_, fun h hm => ?_⟩
  · simp only [accept, if_pos h]
    rfl
  · subst hm
    simp only [accept, if_neg (Nat.not_lt.mpr h), if_true, encodeR_eq]
    cases s.nr <;> rfl
  · subst hm
    simp only [accept, if_neg (Nat.not_lt.mpr h)]
    rfl

/-- `Accept(m, inf)` ends in exactly one of three ways (R201). -/
theorem accept_cases (m : Bool) (inf : ByteString) (s : State) :
    (s.cfg.respMax < s.rxBuf.length + inf.length ∧ accept m inf s = aborted .eResponseOverflow 0x00 s) ∨
    (s.rxBuf.length + inf.length ≤ s.cfg.respMax ∧ m = true ∧
      accept m inf s = { transmit (encodeR s.cfg.crc16Fn s.edc s.nad (!s.nr))
        { s with rxBuf := s.rxBuf ++ inf, nr := !s.nr } with st := .receiving }) ∨
    (s.rxBuf.length + inf.length ≤ s.cfg.respMax ∧ m = false ∧
      accept m inf s = complete { s with rxBuf := s.rxBuf ++ inf, nr := !s.nr }) := by
  by_cases h : s.cfg.respMax < s.rxBuf.length + inf.length
  · exact .inl ⟨h, by simp only [accept, if_pos h]; rfl⟩
  · cases m
    · exact .inr (.inr ⟨Nat.le_of_not_lt h, rfl, by simp only [accept, if_neg h]; rfl⟩)
    · exact .inr (.inl ⟨Nat.le_of_not_lt h, rfl, by simp only [accept, if_neg h]; rfl⟩)

/-- `ResyncAttemptFailed()` (R265, R266). -/
theorem resyncAttemptFailed_spec (s : State) : AttemptFailed s (resyncAttemptFailed s) := by
  refine ⟨fun h => ?_, fun h => ?_⟩
  · simp only [resyncAttemptFailed, if_neg (Nat.not_lt.mpr h)]
    rfl
  · simp only [resyncAttemptFailed, if_pos h, resyncFailed]
    cases s.origin <;> rfl

/-- A failed attempt ends in exactly one of two ways (R265). -/
theorem attemptFailed_cases {s t : State} (h : AttemptFailed s t) :
    (s.retry.toNat + 1 ≤ s.cfg.retryMax ∧ t = resent { s with retry := s.retry + 1 }) ∨
    (s.cfg.retryMax < s.retry.toNat + 1 ∧
      t = { s with
        retry := s.retry + 1
        txBuf := []
        rxBuf := []
        st := .dead
        rxPending := false
        outbox := s.outbox ++
          [.result .eResyncFailed (if s.origin = .auto then s.lastCause.setWidth 8 else 0x00) []] }) := by
  obtain ⟨h1, h2⟩ := h
  by_cases hb : s.retry.toNat + 1 ≤ s.cfg.retryMax
  · exact .inl ⟨hb, h1 hb⟩
  · exact .inr ⟨Nat.lt_of_not_le hb, h2 (Nat.lt_of_not_le hb)⟩

/-- `ResyncDone()` and `ResyncResult()` (R263, R264). -/
theorem resyncDone_eq (s : State) :
    resyncDone s = { s with
      ns := false
      nr := false
      retry := 0
      st := .idle
      outbox := s.outbox ++
        [if s.origin = .auto then .result .eRetryExceeded (0x80 ||| s.lastCause.setWidth 8) [] else .result .ok 0x00 []] } := by
  simp only [resyncDone, resyncResult]
  cases s.origin <;> rfl

/-- A command other than CANCEL (R280, R281). -/
theorem unlessBusy_eq (rule : State → State) (s : State) :
    unlessBusy rule s = if busy s.st then raiseFault .hostViolation s else rule s := rfl

/-- `Open` (R282, R283): its two outcomes. -/
theorem openSession_cases (cedc : Bool) (cnad cifs : Byte) (s : State) :
    (1 ≤ cifs.toNat ∧ cifs.toNat ≤ 254 ∧
      openSession cedc cnad cifs s = emit (.result .ok 0x00 [])
        { s with
          edc := if cedc then .crc else .lrc
          nad := cnad
          ifs := cifs
          ns := false
          nr := false
          retry := 0
          lastCause := 0x00
          txBuf := []
          txOff := 0
          fragLen := 0
          rxBuf := []
          rxPending := false
          wtxMult := 1
          st := .idle }) ∨
    (¬ (1 ≤ cifs.toNat ∧ cifs.toNat ≤ 254) ∧ openSession cedc cnad cifs s = emit (.result .eBadParam 0x00 []) s) := by
  by_cases h : 1 ≤ cifs.toNat ∧ cifs.toNat ≤ 254
  · exact .inl ⟨h.1, h.2, by rw [openSession, if_pos (by simp [cifsLegal, h])]⟩
  · exact .inr ⟨h, by rw [openSession, if_neg (by simpa [cifsLegal] using h)]⟩

/-- `Exchange` while not busy (R285 to R287): its four outcomes. -/
theorem exchange_cases (apdu : ByteString) (s : State) (h : busy s.st = false) :
    (s.st = .closed ∧ exchange apdu s = emit (.result .eNotOpen 0x00 []) s) ∨
    (s.st = .dead ∧ exchange apdu s = emit (.result .eDead 0x00 []) s) ∨
    (s.st = .idle ∧ s.cfg.apduMax < apdu.length ∧ exchange apdu s = emit (.result .eApduTooLong 0x00 []) s) ∨
    (s.st = .idle ∧ apdu.length ≤ s.cfg.apduMax ∧ exchange apdu s = startExchange apdu s) := by
  unfold exchange
  cases hst : s.st <;> simp_all [busy]
  by_cases hl : s.cfg.apduMax < apdu.length
  · exact .inl ⟨hl, fun hn => absurd hl (Nat.not_lt.mpr hn)⟩
  · exact .inr ⟨Nat.le_of_not_lt hl, fun hn => absurd hn hl⟩

/-- `Resync` while not busy (R286, R290): its three outcomes. -/
theorem resync_cases (s : State) (h : busy s.st = false) :
    (s.st = .closed ∧ resync s = emit (.result .eNotOpen 0x00 []) s) ∨
    (s.st = .dead ∧ resync s = emit (.result .eDead 0x00 []) s) ∨
    (s.st = .idle ∧ resync s = startResync .host s) := by
  unfold resync
  cases hst : s.st <;> simp_all [busy]

/-! ### Operands -/

/-- A well-formed WTX request carries one byte, 1..255 (R101). -/
theorem wtxParam_eq_some {sinf : ByteString} {m : Byte} : wtxParam sinf = some m ↔ sinf = [m] ∧ m ≠ 0 := by
  match sinf with
  | [] => simp [wtxParam]
  | [a] =>
    simp only [wtxParam]
    split_ifs with h
    · simp only [false_iff, not_and, not_not, List.cons.injEq, and_true]
      exact fun he => he ▸ h
    · simp only [Option.some.injEq, List.cons.injEq, and_true]
      exact ⟨fun he => ⟨he, he ▸ h⟩, fun he => he.1⟩
  | _ :: _ :: _ => simp [wtxParam]

/-- A well-formed IFS request carries one byte, 1..254 (R101). -/
theorem ifsParam_eq_some {sinf : ByteString} {v : Byte} :
    ifsParam sinf = some v ↔ sinf = [v] ∧ v ≠ 0 ∧ v ≠ 0xFF := by
  match sinf with
  | [] => simp [ifsParam]
  | [a] =>
    simp only [ifsParam]
    split_ifs with h h'
    · simp only [false_iff, not_and, List.cons.injEq, and_true]
      exact fun he h0 => absurd (he ▸ h) h0
    · simp only [false_iff, not_and, not_not, List.cons.injEq, and_true]
      exact fun he _ => he ▸ h'
    · simp only [Option.some.injEq, List.cons.injEq, and_true]
      exact ⟨fun he => ⟨he, he ▸ h, he ▸ h'⟩, fun he => he.1⟩
  | _ :: _ :: _ => simp [ifsParam]

end Sys2Proof.Machine
end

