-- ==== Sys2Proof/Laws/Step.lean ====
section
/-! SUPPORT. What one step can do, said once: the inversion of `step`, of the handling of an event, and the totality of
`exec`. -/

namespace Sys2Proof.Machine

/-- Every instruction answers a next state, in every state: the engine's errors are results (R310 to R316). -/
theorem exec_next (i : Instr) (s : State) : ∃ t, exec i s = .next t := by
  cases i <;> exact ⟨_, rfl⟩

theorem haltReason_eq_none {k : FaultKind} : haltReason k = none ↔ k = .none := by
  cases k <;> simp [haltReason]

/-- A step that answers a next state found no fault recorded, and either no event was offered or it consumed the first one. -/
theorem step_cases {s t : State} (h : step s = .next t) :
    s.fault = .none ∧
      ((s.inbox = [] ∧ t = s) ∨
        ∃ e rest, s.inbox = e :: rest ∧ handleEvent e { s with inbox := rest } = .next t) := by
  unfold step stepEvent at h
  split at h
  · cases h
  · rename_i hk
    refine ⟨haltReason_eq_none.mp hk, ?_⟩
    split at h
    · rename_i hi
      cases h
      exact .inl ⟨hi, rfl⟩
    · rename_i e rest hi
      exact .inr ⟨e, rest, hi, h⟩

/-- A step with an event at hand and no fault recorded handles that event. -/
theorem step_eq {s : State} {e : Event} {rest : List Event} (hf : s.fault = .none) (hi : s.inbox = e :: rest) :
    step s = handleEvent e { s with inbox := rest } := by
  simp [step, stepEvent, hf, hi, haltReason]

/-! ### Handling one event, by what it decodes to -/

/-- A command word that decodes runs its instruction (R280). -/
theorem handleEvent_cmd_instr {s : State} {w : CommandWord} {apdu : ByteString} {i : Instr}
    (h : decodeCommand (busy s.st) w apdu = some i) : handleEvent (.cmd w apdu) s = exec i s := by
  simp only [handleEvent, dispatchEvent, decode]
  rw [show decodeCommand (busy (decodeCtx s).st) w apdu = some i from h]

/-- A command word that is not well-formed (R109, R281). -/
theorem handleEvent_cmd_bad {s : State} {w : CommandWord} {apdu : ByteString}
    (h : decodeCommand (busy s.st) w apdu = none) : handleEvent (.cmd w apdu) s = .next (badCommand s) := by
  simp only [handleEvent, dispatchEvent, decode]
  rw [show decodeCommand (busy (decodeCtx s).st) w apdu = none from h]
  rfl

/-- A receive event that no read awaits (R319). -/
theorem handleEvent_rx_unawaited {s : State} (r : RxEvent) (h : awaitsReply s = false) :
    handleEvent (.rx r) s = .next (raiseFault .transportViolation s) := by
  simp [handleEvent, h]

/-- An awaited frame that decodes runs its instruction after the prologue (R186). -/
theorem handleEvent_rx_instr {s : State} {r : RxEvent} {i : Instr} (h : awaitsReply s = true)
    (hd : decode (decodeCtx s) (.rx r) = .instr i) : handleEvent (.rx r) s = exec i (rxPrologue s) := by
  simp only [handleEvent, h, if_true, dispatchEvent]
  rw [show decode (decodeCtx (rxPrologue s)) (.rx r) = .instr i from hd]

/-- An awaited event that is no instruction (R187 to R190, R262). -/
theorem handleEvent_rx_rejected {s : State} {r : RxEvent} {j : Reject} (h : awaitsReply s = true)
    (hd : decode (decodeCtx s) (.rx r) = .rejected j) :
    handleEvent (.rx r) s = .next (onReject j (rxPrologue s)) := by
  simp only [handleEvent, h, if_true, dispatchEvent]
  rw [show decode (decodeCtx (rxPrologue s)) (.rx r) = .rejected j from hd]

/-- What handling an event can do. -/
theorem handleEvent_cases {e : Event} {s t : State} (h : handleEvent e s = .next t) :
    (∃ w apdu i, e = .cmd w apdu ∧ decodeCommand (busy s.st) w apdu = some i ∧ exec i s = .next t) ∨
    (∃ w apdu, e = .cmd w apdu ∧ decodeCommand (busy s.st) w apdu = none ∧ t = badCommand s) ∨
    (∃ r, e = .rx r ∧ awaitsReply s = false ∧ t = raiseFault .transportViolation s) ∨
    (∃ r i, e = .rx r ∧ awaitsReply s = true ∧ decode (decodeCtx s) e = .instr i ∧ exec i (rxPrologue s) = .next t) ∨
    (∃ r j, e = .rx r ∧ awaitsReply s = true ∧ decode (decodeCtx s) e = .rejected j ∧ t = onReject j (rxPrologue s)) := by
  cases e with
  | cmd w apdu =>
    simp only [handleEvent, dispatchEvent, decode] at h
    split at h
    · rename_i i hd
      split at hd
      · rename_i j hc
        cases hd
        exact .inl ⟨w, apdu, i, rfl, hc, h⟩
      · cases hd
    · rename_i r hd
      split at hd
      · cases hd
      · rename_i hc
        cases hd
        cases h
        exact .inr (.inl ⟨w, apdu, rfl, hc, rfl⟩)
  | rx r =>
    simp only [handleEvent] at h
    by_cases ha : awaitsReply s = true
    · rw [if_pos ha] at h
      have hctx : decodeCtx (rxPrologue s) = decodeCtx s := rfl
      unfold dispatchEvent at h
      rw [hctx] at h
      split at h
      · rename_i i hd
        exact .inr (.inr (.inr (.inl ⟨r, i, rfl, ha, hd, h⟩)))
      · rename_i j hd
        cases h
        exact .inr (.inr (.inr (.inr ⟨r, j, rfl, ha, hd, rfl⟩)))
    · rw [if_neg ha] at h
      cases h
      exact .inr (.inr (.inl ⟨r, rfl, by simpa using ha, rfl⟩))

/-- An `Rx` event that decodes to an instruction is a frame that decoded Ok to a block, whose row the state selects. -/
theorem decode_rx_instr {c : DecodeCtx} {r : RxEvent} {i : Instr} (h : decode c (.rx r) = .instr i) :
    ∃ f b, r = .frame f ∧ decodeFrame c.crc16Fn c.edc f = .ok b ∧ selectRow c b = some i := by
  cases r with
  | timeout => cases h
  | transportError => cases h
  | frame f =>
    simp only [decode] at h
    split at h
    · cases h
    · cases h
    · cases h
    · rename_i b hb
      split at h
      · rename_i j hj
        cases h
        exact ⟨f, b, rfl, hb, hj⟩
      · cases h

/-- A busy engine selects a row for every block, so `noRow` is never answered where a reply is awaited. -/
theorem decode_rx_rejected {c : DecodeCtx} {r : RxEvent} {j : Reject} (hb : busy c.st = true)
    (h : decode c (.rx r) = .rejected j) :
    (r = .timeout ∧ j = .timeout) ∨ (r = .transportError ∧ j = .transportError) ∨
    (∃ f, r = .frame f ∧ decodeFrame c.crc16Fn c.edc f = .framingShort ∧ j = .framingShort) ∨
    (∃ f, r = .frame f ∧ decodeFrame c.crc16Fn c.edc f = .checksumLength ∧ j = .checksumLength) ∨
    (∃ f, r = .frame f ∧ decodeFrame c.crc16Fn c.edc f = .checksumEdc ∧ j = .checksumEdc) := by
  cases r with
  | timeout => cases h; exact .inl ⟨rfl, rfl⟩
  | transportError => cases h; exact .inr (.inl ⟨rfl, rfl⟩)
  | frame f =>
    simp only [decode] at h
    split at h
    · rename_i hf; cases h; exact .inr (.inr (.inl ⟨f, rfl, hf, rfl⟩))
    · rename_i hf; cases h; exact .inr (.inr (.inr (.inl ⟨f, rfl, hf, rfl⟩)))
    · rename_i hf; cases h; exact .inr (.inr (.inr (.inr ⟨f, rfl, hf, rfl⟩)))
    · split at h
      · cases h
      · rename_i hn
        unfold selectRow at hn
        split at hn <;> simp_all [busy]

end Sys2Proof.Machine
end

