-- ==== Sys2Proof/Laws/Effects.lean ====
section
/-! SUPPORT. The list of everything one input event can do (`handleEvent_effect`), so that a claim over all steps is a case
analysis over these outcomes and not over the code. -/

namespace Sys2Proof.Machine

/-- What handling the event `e` does to the state `s`, which has the event already taken from `inbox`. -/
inductive Effect (s : State) (e : Event) : State → Prop where
  /-- A command other than CANCEL while busy (R318). -/
  | hostViolation (w : CommandWord) (apdu : ByteString) (he : e = .cmd w apdu) (hb : busy s.st = true)
      (hw : w ≠ 0x00000004) : Effect s e (raiseFault .hostViolation s)
  /-- An `Rx` event that no read awaits (R319). -/
  | transportViolation (r : RxEvent) (he : e = .rx r) (ha : awaitsReply s = false) :
      Effect s e (raiseFault .transportViolation s)
  /-- A command that is turned away with a result (R109, R283, R286, R287). -/
  | turnedAway (w : CommandWord) (apdu : ByteString) (code : Status) (he : e = .cmd w apdu) (hb : busy s.st = false)
      (hw : w ≠ 0x00000004) (hc : code ≠ .ok) : Effect s e (emit (.result code 0x00 []) s)
  /-- OPEN (R282). -/
  | opened (w : CommandWord) (apdu : ByteString) (cedc : Bool) (cnad cifs : Byte) (he : e = .cmd w apdu)
      (hb : busy s.st = false) (hw : w ≠ 0x00000004) (hd : decode (decodeCtx s) e = .instr (.openCmd cedc cnad cifs))
      (hl : 1 ≤ cifs.toNat) (hu : cifs.toNat ≤ 254) :
      Effect s e (emit (.result .ok 0x00 [])
        { s with
          edc := if cedc then .crc else .lrc
          nad := cnad
          ifs := cifs
          ns := false
          nr := false
          retry := 0
          lastCause := 0x00
          txBuf := []
          txOff := 0
          fragLen := 0
          rxBuf := []
          rxPending := false
          wtxMult := 1
          st := .idle })
  /-- CLOSE (R284). -/
  | closed (apdu : ByteString) (he : e = .cmd 0x00000002 apdu) (hb : busy s.st = false)
      (hd : decode (decodeCtx s) e = .instr .closeCmd) : Effect s e (closeSession s)
  /-- EXCHANGE, accepted (R285). -/
  | exchangeStarted (apdu : ByteString) (he : e = .cmd 0x00000003 apdu) (hst : s.st = .idle)
      (hl : apdu.length ≤ s.cfg.apduMax) : Effect s e (startExchange apdu s)
  /-- RESYNC, accepted (R290). -/
  | resyncStarted (apdu : ByteString) (he : e = .cmd 0x00000005 apdu) (hst : s.st = .idle) : Effect s e (startResync .host s)
  /-- CANCEL while busy (R288). -/
  | cancelled (apdu : ByteString) (he : e = .cmd 0x00000004 apdu) (hb : busy s.st = true) : Effect s e (hostCancel s)
  /-- CANCEL while not busy (R289). -/
  | ignored (apdu : ByteString) (he : e = .cmd 0x00000004 apdu) (hb : busy s.st = false) : Effect s e s
  /-- A receive error that aborts the exchange (R187 to R189). -/
  | aborted (r : RxEvent) (code : Status) (detail : Byte) (he : e = .rx r) (ha : awaitsReply s = true)
      (hx : inExchange s.st = true) (hd : ∀ i, decode (decodeCtx s) e ≠ .instr i) (hc : code ≠ .ok) :
      Effect s e (abort code detail (rxPrologue s))
  /-- A recoverable error (R190, R192 to R196, R246 to R249). -/
  | recovered (r : RxEvent) (cause : BitVec 7) (he : e = .rx r) (ha : awaitsReply s = true) (hx : inExchange s.st = true)
      (hc : causeLegal cause = true) (hd : ∀ m, m ≠ 0 → decode (decodeCtx s) e ≠ .instr (.sWtxReq [m])) :
      Effect s e (recoverable cause (rxPrologue s))
  /-- A positive acknowledgement (R191). -/
  | acknowledged (r : RxEvent) (n : Bool) (he : e = .rx r) (ha : awaitsReply s = true) (hst : s.st = .awaitAck)
      (hd : decode (decodeCtx s) e = .instr (.rAwaitAckAck n)) : Effect s e (ackAdvance (rxPrologue s))
  /-- The first response I-block (R197). -/
  | firstAccepted (r : RxEvent) (b m : Bool) (inf : ByteString) (he : e = .rx r) (ha : awaitsReply s = true)
      (hst : s.st = .awaitResp) (hd : decode (decodeCtx s) e = .instr (.iAwaitRespInSeq b m inf)) :
      Effect s e (accept m inf { rxPrologue s with ns := !s.ns })
  /-- A further response I-block (R199). -/
  | nextAccepted (r : RxEvent) (b m : Bool) (inf : ByteString) (he : e = .rx r) (ha : awaitsReply s = true)
      (hst : s.st = .receiving) (hd : decode (decodeCtx s) e = .instr (.iReceivingInSeq b m inf)) :
      Effect s e (accept m inf (rxPrologue s))
  /-- A response I-block with the wrong sequence bit (R198, R200). -/
  | resent (r : RxEvent) (he : e = .rx r) (ha : awaitsReply s = true) (hst : s.st = .awaitResp ∨ s.st = .receiving) :
      Effect s e (retransmit (rxPrologue s))
  /-- A well-formed WTX request (R241). -/
  | waitGranted (r : RxEvent) (m : Byte) (he : e = .rx r) (ha : awaitsReply s = true) (hx : inExchange s.st = true)
      (hm : m ≠ 0) (hd : decode (decodeCtx s) e = .instr (.sWtxReq [m])) : Effect s e (wtxRequest m (rxPrologue s))
  /-- A well-formed IFS request (R243). -/
  | ifsAdopted (r : RxEvent) (v : Byte) (he : e = .rx r) (ha : awaitsReply s = true) (hx : inExchange s.st = true)
      (h0 : v ≠ 0) (h1 : v ≠ 0xFF) (hd : decode (decodeCtx s) e = .instr (.sIfsReq [v])) :
      Effect s e (ifsRequest v (rxPrologue s))
  /-- A well-formed ABORT request (R245). -/
  | cardAborted (r : RxEvent) (he : e = .rx r) (ha : awaitsReply s = true) (hx : inExchange s.st = true) :
      Effect s e (cardAbort (rxPrologue s))
  /-- The RESYNCH response (R263). -/
  | resynced (r : RxEvent) (he : e = .rx r) (ha : awaitsReply s = true) (hst : s.st = .resyncing)
      (hd : decode (decodeCtx s) e = .instr .sResynchRespResyncing) : Effect s e (resyncDone (rxPrologue s))
  /-- A failed attempt to resynchronize (R265). -/
  | attemptFailed (r : RxEvent) (he : e = .rx r) (ha : awaitsReply s = true) (hst : s.st = .resyncing) :
      Effect s e (resyncAttemptFailed (rxPrologue s))

theorem causeLegal_causeRError (err : BitVec 4) (h : err ≠ 0) : causeLegal (causeRError err) = true := by
  revert err
  decide

theorem inExchange_of_busy {st : St} (h : busy st = true) (hr : st ≠ .resyncing) : inExchange st = true := by
  cases st <;> simp_all [busy, inExchange]

/-- The command's effect, from its row. -/
theorem command_effect {s t : State} {w : CommandWord} {apdu : ByteString} {i : Instr}
    (hd : decodeCommand (busy s.st) w apdu = some i) (h : exec i s = .next t) : Effect s (.cmd w apdu) t := by
  have hdec : decode (decodeCtx s) (.cmd w apdu) = .instr i := by
    simp only [decode, show decodeCommand (busy (decodeCtx s).st) w apdu = some i from hd]
  have hne : ∀ {v : CommandWord}, w = v → v ≠ 0x00000004 → w ≠ 0x00000004 := fun h hv => h ▸ hv
  have hopen : w &&& 0xFF0000EF = 0x00000001 → w ≠ 0x00000004 := by
    rintro h rfl
    exact absurd h (by decide)
  rcases decodeCommand_cases hd with ⟨cedc, cnad, cifs, rfl, hw⟩ | ⟨rfl, rfl⟩ | ⟨rfl, rfl⟩ | ⟨rfl, rfl, hb⟩ |
    ⟨rfl, rfl, hb⟩ | ⟨rfl, rfl⟩
  · cases h
    rw [unlessBusy_eq]
    split
    · rename_i hb
      exact .hostViolation w apdu rfl hb (hopen hw)
    · rename_i hb
      have hb : busy s.st = false := by simpa using hb
      rcases openSession_cases cedc cnad cifs s with ⟨hl, hu, he⟩ | ⟨-, he⟩ <;> rw [he]
      · exact .opened w apdu cedc cnad cifs rfl hb (hopen hw) hdec hl hu
      · exact .turnedAway w apdu _ rfl hb (hopen hw) (by decide)
  · cases h
    rw [unlessBusy_eq]
    split
    · rename_i hb
      exact .hostViolation _ apdu rfl hb (by decide)
    · rename_i hb
      exact .closed apdu rfl (by simpa using hb) hdec
  · cases h
    rw [unlessBusy_eq]
    split
    · rename_i hb
      exact .hostViolation _ apdu rfl hb (by decide)
    · rename_i hb
      have hb : busy s.st = false := by simpa using hb
      rcases exchange_cases apdu s hb with ⟨-, he⟩ | ⟨-, he⟩ | ⟨-, -, he⟩ | ⟨hst, hl, he⟩ <;> rw [he]
      · exact .turnedAway _ apdu _ rfl hb (by decide) (by decide)
      · exact .turnedAway _ apdu _ rfl hb (by decide) (by decide)
      · exact .turnedAway _ apdu _ rfl hb (by decide) (by decide)
      · exact .exchangeStarted apdu rfl hst hl
  · cases h
    exact .cancelled apdu rfl hb
  · cases h
    exact .ignored apdu rfl hb
  · cases h
    rw [unlessBusy_eq]
    split
    · rename_i hb
      exact .hostViolation _ apdu rfl hb (by decide)
    · rename_i hb
      have hb : busy s.st = false := by simpa using hb
      rcases resync_cases s hb with ⟨-, he⟩ | ⟨-, he⟩ | ⟨hst, he⟩ <;> rw [he]
      · exact .turnedAway _ apdu _ rfl hb (by decide) (by decide)
      · exact .turnedAway _ apdu _ rfl hb (by decide) (by decide)
      · exact .resyncStarted apdu rfl hst

/-- The effect of an S-block outside RESYNCING (R240 to R249). -/
theorem supervisory_effect {s t : State} {r : RxEvent} {resp : Bool} {type : BitVec 5} {sinf : ByteString}
    (ha : awaitsReply s = true) (hx : inExchange s.st = true)
    (hd : decode (decodeCtx s) (.rx r) = .instr (supervisoryRow resp type sinf))
    (h : exec (supervisoryRow resp type sinf) (rxPrologue s) = .next t) : Effect s (.rx r) t := by
  have protocol : (∀ m, m ≠ 0 → supervisoryRow resp type sinf ≠ .sWtxReq [m]) →
      Effect s (.rx r) (recoverable causeProtocol (rxPrologue s)) := fun hn =>
    .recovered r _ rfl ha hx rfl (by rw [hd]; rintro m hm hi; exact hn m hm (Decoded.instr.inj hi))
  unfold supervisoryRow at h hd protocol
  split_ifs at h hd protocol <;> cases h <;>
    try exact protocol (by intro m _ hi; cases hi)
  · cases hp : ifsParam sinf with
    | none => exact protocol (by intro m _ hi; cases hi)
    | some v =>
      obtain ⟨rfl, h0, h1⟩ := ifsParam_eq_some.mp hp
      exact .ifsAdopted r v rfl ha hx h0 h1 hd
  · split
    · exact .cardAborted r rfl ha hx
    · exact protocol (by intro m _ hi; cases hi)
  · cases hp : wtxParam sinf with
    | none =>
      refine protocol (by
        intro m hm hi
        cases hi
        rw [wtxParam_eq_some.mpr ⟨rfl, hm⟩] at hp
        cases hp)
    | some m =>
      obtain ⟨rfl, hm⟩ := wtxParam_eq_some.mp hp
      exact .waitGranted r m rfl ha hx hm hd

/-- The effect of a received block, from its row. -/
theorem block_effect {s t : State} {r : RxEvent} {i : Instr} (ha : awaitsReply s = true)
    (hd : decode (decodeCtx s) (.rx r) = .instr i) (h : exec i (rxPrologue s) = .next t) : Effect s (.rx r) t := by
  obtain ⟨f, b, rfl, -, hs⟩ := decode_rx_instr hd
  have recover : ∀ (cause : BitVec 7), causeLegal cause = true → inExchange s.st = true →
      (∀ m, m ≠ 0 → i ≠ .sWtxReq [m]) → Effect s (.rx (.frame f)) (recoverable cause (rxPrologue s)) :=
    fun cause hc hx hn => .recovered _ _ rfl ha hx hc (by rw [hd]; rintro m hm hi; exact hn m hm (Decoded.instr.inj hi))
  have hst : (decodeCtx s).st = s.st := rfl
  unfold selectRow at hs
  rw [hst] at hs
  split at hs <;> cases hs
  · rename_i hw
    have hx : inExchange s.st = true := by rw [hw]; rfl
    cases b with
    | info a m inf =>
      cases h
      exact recover _ rfl hx (by intro m _ hi; cases hi)
    | ready n err =>
      unfold awaitAckRow at h hd recover
      simp only at h hd recover
      split_ifs at h hd recover with he hn <;> cases h
      · exact recover _ (causeLegal_causeRError err he) hx (by intro m _ hi; cases hi)
      · exact .acknowledged _ n rfl ha hw hd
      · exact recover _ rfl hx (by intro m _ hi; cases hi)
    | supervisory resp type sinf => exact supervisory_effect ha hx hd h
  · rename_i hw
    have hx : inExchange s.st = true := by rw [hw]; rfl
    cases b with
    | info a m inf =>
      unfold awaitRespRow at h hd
      simp only at h hd
      split_ifs at h hd <;> cases h
      · exact .firstAccepted _ a m inf rfl ha hw hd
      · exact .resent _ rfl ha (.inl hw)
    | ready n err =>
      unfold awaitRespRow at h hd recover
      simp only at h hd recover
      split_ifs at h hd recover with he <;> cases h
      · exact recover _ (causeLegal_causeRError err he) hx (by intro m _ hi; cases hi)
      · exact recover _ rfl hx (by intro m _ hi; cases hi)
    | supervisory resp type sinf => exact supervisory_effect ha hx hd h
  · rename_i hw
    have hx : inExchange s.st = true := by rw [hw]; rfl
    cases b with
    | info a m inf =>
      unfold receivingRow at h hd
      simp only at h hd
      split_ifs at h hd <;> cases h
      · exact .nextAccepted _ a m inf rfl ha hw hd
      · exact .resent _ rfl ha (.inr hw)
    | ready n err =>
      unfold receivingRow at h hd recover
      simp only at h hd recover
      split_ifs at h hd recover with he <;> cases h
      · exact recover _ (causeLegal_causeRError err he) hx (by intro m _ hi; cases hi)
      · exact recover _ rfl hx (by intro m _ hi; cases hi)
    | supervisory resp type sinf => exact supervisory_effect ha hx hd h
  · rename_i hw
    unfold resyncingRow at h hd
    split_ifs at h hd <;> cases h
    · exact .resynced _ rfl ha hw hd
    · exact .attemptFailed _ rfl ha hw

/-- The effect of an awaited event that is no instruction (R187 to R190, R262). -/
theorem reject_effect {s : State} {r : RxEvent} {j : Reject} (ha : awaitsReply s = true)
    (hd : decode (decodeCtx s) (.rx r) = .rejected j) : Effect s (.rx r) (onReject j (rxPrologue s)) := by
  have hb : busy s.st = true := by
    unfold awaitsReply at ha
    exact (Bool.and_eq_true_iff.mp ha).2
  have hni : ∀ i, decode (decodeCtx s) (.rx r) ≠ .instr i := by
    intro i hi
    rw [hd] at hi
    cases hi
  have hresync : ∀ rule, unlessResyncing rule (rxPrologue s) =
      if s.st = .resyncing then resyncAttemptFailed (rxPrologue s) else rule (rxPrologue s) := fun _ => rfl
  have abort_case : ∀ (code : Status) (detail : Byte), code ≠ .ok →
      Effect s (.rx r) (unlessResyncing (abort code detail) (rxPrologue s)) := by
    intro code detail hc
    rw [hresync]
    split
    · rename_i hw
      exact .attemptFailed r rfl ha hw
    · rename_i hw
      exact .aborted r code detail rfl ha (inExchange_of_busy hb hw) hni hc
  have checksum_case : Effect s (.rx r) (onChecksumError (rxPrologue s)) := by
    rw [onChecksumError, hresync]
    split
    · rename_i hw
      exact .attemptFailed r rfl ha hw
    · rename_i hw
      exact .recovered r _ rfl ha (inExchange_of_busy hb hw) rfl (fun m _ => hni _)
  rcases decode_rx_rejected hb hd with ⟨-, rfl⟩ | ⟨-, rfl⟩ | ⟨f, -, -, rfl⟩ | ⟨f, -, -, rfl⟩ | ⟨f, -, -, rfl⟩
  · exact abort_case _ _ (by decide)
  · exact abort_case _ _ (by decide)
  · exact abort_case _ _ (by decide)
  · exact checksum_case
  · exact checksum_case

/-- Everything that handling one event can do. -/
theorem handleEvent_effect {e : Event} {s t : State} (h : handleEvent e s = .next t) : Effect s e t := by
  rcases handleEvent_cases h with ⟨w, apdu, i, rfl, hd, hx⟩ | ⟨w, apdu, rfl, hd, rfl⟩ | ⟨r, rfl, ha, rfl⟩ |
    ⟨r, i, rfl, ha, hd, hx⟩ | ⟨r, j, rfl, ha, hd, rfl⟩
  · exact command_effect hd hx
  · have hw : w ≠ 0x00000004 := by
      rintro rfl
      simp [decodeCommand] at hd
    rw [badCommand, unlessBusy_eq]
    split
    · rename_i hb
      exact .hostViolation w apdu rfl hb hw
    · rename_i hb
      exact .turnedAway w apdu _ rfl (by simpa using hb) hw (by decide)
  · exact .transportViolation r rfl ha
  · exact block_effect ha hd hx
  · exact reject_effect ha hd

/-- Everything that one step can do. -/
theorem step_effect {s t : State} (h : step s = .next t) :
    s.fault = .none ∧ ((s.inbox = [] ∧ t = s) ∨
      ∃ e rest, s.inbox = e :: rest ∧ Effect { s with inbox := rest } e t) := by
  obtain ⟨hf, h⟩ := step_cases h
  refine ⟨hf, ?_⟩
  rcases h with h | ⟨e, rest, hi, h⟩
  · exact .inl h
  · exact .inr ⟨e, rest, hi, handleEvent_effect h⟩

/-- A run of one step and then `n`. -/
theorem runsTo_succ {n : Nat} {s u t : State} (h : step s = .next u) (hr : RunsTo n u t) : RunsTo (n + 1) s t := by
  have hs : Sys2Proof.core.step s = .next u := h
  simp only [RunsTo, Host.Core.run, hs]
  exact hr

theorem runsTo_zero (s : State) : RunsTo 0 s s := rfl

end Sys2Proof.Machine
end

