-- ==== Sys2Proof/Laws/PerInstr.lean ====
section
/-! SUPPORT. Per instruction: the word an instruction is encoded with has its opcode-table row's match under the row's mask. -/

namespace Sys2Proof.Laws.TableMatch

/-- The word the opcode table speaks of: the PCB of a frame row, the command word of a command row. -/
def rowWord (i : Instr) : BitVec 32 :=
  match rowBlock i with
  | some b => (blockPcb b).setWidth 32
  | none => (rowCommand i).1

/-- The row's mask and match in spec/opcode_table.json. -/
def row : Instr → BitVec 32 × BitVec 32
  | .iAwaitAck _ _ _ => (0x80, 0x00)
  | .iAwaitRespInSeq _ _ _ => (0x80, 0x00)
  | .iAwaitRespOutOfSeq _ _ _ => (0x80, 0x00)
  | .iReceivingInSeq _ _ _ => (0x80, 0x00)
  | .iReceivingDuplicate _ _ _ => (0x80, 0x00)
  | .rError _ _ => (0xC0, 0x80)
  | .rAwaitAckAck _ => (0xCF, 0x80)
  | .rAwaitAckNoAdvance _ => (0xCF, 0x80)
  | .rAwaitResp _ => (0xCF, 0x80)
  | .rReceiving _ => (0xCF, 0x80)
  | .sWtxReq _ => (0xFF, 0xC3)
  | .sIfsReq _ => (0xFF, 0xC1)
  | .sAbortReq _ => (0xFF, 0xC2)
  | .sResynchReq _ => (0xFF, 0xC0)
  | .sResynchRespResyncing => (0xFF, 0xE0)
  | .sResynchResp _ => (0xFF, 0xE0)
  | .sIfsResp _ => (0xFF, 0xE1)
  | .sAbortResp _ => (0xFF, 0xE2)
  | .sWtxResp _ => (0xFF, 0xE3)
  | .sOther _ _ _ => (0xC0, 0xC0)
  | .anyResyncing _ => (0x00, 0x00)
  | .openCmd _ _ _ => (0xFF0000EF, 0x00000001)
  | .closeCmd => (0xFFFFFFFF, 0x00000002)
  | .exchangeCmd _ => (0xFFFFFFFF, 0x00000003)
  | .cancelBusy => (0xFFFFFFFF, 0x00000004)
  | .cancelNotBusy => (0xFFFFFFFF, 0x00000004)
  | .resyncCmd => (0xFFFFFFFF, 0x00000005)

theorem infoPcb_mask : ∀ s m : Bool, (infoPcb s m).setWidth 32 &&& 0x80 = (0x00 : BitVec 32) := by decide

/-- The encoding of a well-formed instruction matches its row. -/
def Statement (i : Instr) : Prop := i.wellFormed = true → rowWord i &&& (row i).1 = (row i).2

theorem iAwaitAck (nsIn mIn : Bool) (inf : ByteString) : Statement (.iAwaitAck nsIn mIn inf) := fun _ =>
  infoPcb_mask nsIn mIn

theorem iAwaitRespInSeq (nsIn mIn : Bool) (inf : ByteString) : Statement (.iAwaitRespInSeq nsIn mIn inf) := fun _ =>
  infoPcb_mask nsIn mIn

theorem iAwaitRespOutOfSeq (nsIn mIn : Bool) (inf : ByteString) : Statement (.iAwaitRespOutOfSeq nsIn mIn inf) := fun _ =>
  infoPcb_mask nsIn mIn

theorem iReceivingInSeq (nsIn mIn : Bool) (inf : ByteString) : Statement (.iReceivingInSeq nsIn mIn inf) := fun _ =>
  infoPcb_mask nsIn mIn

theorem iReceivingDuplicate (nsIn mIn : Bool) (inf : ByteString) : Statement (.iReceivingDuplicate nsIn mIn inf) := fun _ =>
  infoPcb_mask nsIn mIn

theorem rError (nrIn : Bool) (err : BitVec 4) : Statement (.rError nrIn err) := fun _ => by
  have h : ∀ (n : Bool) (e : BitVec 4), (readyPcb n e).setWidth 32 &&& 0xC0 = (0x80 : BitVec 32) := by decide
  exact h nrIn err

theorem rAwaitAckAck (nrIn : Bool) : Statement (.rAwaitAckAck nrIn) := fun _ => by
  cases nrIn <;> rfl

theorem rAwaitAckNoAdvance (nrIn : Bool) : Statement (.rAwaitAckNoAdvance nrIn) := fun _ => by
  cases nrIn <;> rfl

theorem rAwaitResp (nrIn : Bool) : Statement (.rAwaitResp nrIn) := fun _ => by
  cases nrIn <;> rfl

theorem rReceiving (nrIn : Bool) : Statement (.rReceiving nrIn) := fun _ => by
  cases nrIn <;> rfl

theorem sWtxReq (sinf : ByteString) : Statement (.sWtxReq sinf) := fun _ =>
  (by decide : (supervisoryPcb false 3).setWidth 32 &&& 0xFF = (0xC3 : BitVec 32))

theorem sIfsReq (sinf : ByteString) : Statement (.sIfsReq sinf) := fun _ =>
  (by decide : (supervisoryPcb false 1).setWidth 32 &&& 0xFF = (0xC1 : BitVec 32))

theorem sAbortReq (sinf : ByteString) : Statement (.sAbortReq sinf) := fun _ =>
  (by decide : (supervisoryPcb false 2).setWidth 32 &&& 0xFF = (0xC2 : BitVec 32))

theorem sResynchReq (sinf : ByteString) : Statement (.sResynchReq sinf) := fun _ =>
  (by decide : (supervisoryPcb false 0).setWidth 32 &&& 0xFF = (0xC0 : BitVec 32))

theorem sResynchRespResyncing : Statement .sResynchRespResyncing := fun _ => rfl

theorem sResynchResp (sinf : ByteString) : Statement (.sResynchResp sinf) := fun _ =>
  (by decide : (supervisoryPcb true 0).setWidth 32 &&& 0xFF = (0xE0 : BitVec 32))

theorem sIfsResp (sinf : ByteString) : Statement (.sIfsResp sinf) := fun _ =>
  (by decide : (supervisoryPcb true 1).setWidth 32 &&& 0xFF = (0xE1 : BitVec 32))

theorem sAbortResp (sinf : ByteString) : Statement (.sAbortResp sinf) := fun _ =>
  (by decide : (supervisoryPcb true 2).setWidth 32 &&& 0xFF = (0xE2 : BitVec 32))

theorem sWtxResp (sinf : ByteString) : Statement (.sWtxResp sinf) := fun _ =>
  (by decide : (supervisoryPcb true 3).setWidth 32 &&& 0xFF = (0xE3 : BitVec 32))

theorem sOther (resp : Bool) (type : BitVec 5) (sinf : ByteString) : Statement (.sOther resp type sinf) := fun _ => by
  have h : ∀ (r : Bool) (t : BitVec 5), (supervisoryPcb r t).setWidth 32 &&& 0xC0 = (0xC0 : BitVec 32) := by decide
  exact h resp type

theorem anyResyncing (block : Block) : Statement (.anyResyncing block) := fun _ => by
  simp [row]

theorem openCmd (cedc : Bool) (cnad cifs : Byte) : Statement (.openCmd cedc cnad cifs) := fun _ => openWord_mask cedc cnad cifs

theorem closeCmd : Statement .closeCmd := fun _ => rfl

theorem exchangeCmd (apdu : ByteString) : Statement (.exchangeCmd apdu) := fun _ =>
  (by decide : (0x00000003 : BitVec 32) &&& 0xFFFFFFFF = 0x00000003)

theorem cancelBusy : Statement .cancelBusy := fun _ => rfl

theorem cancelNotBusy : Statement .cancelNotBusy := fun _ => rfl

theorem resyncCmd : Statement .resyncCmd := fun _ => rfl

end Sys2Proof.Laws.TableMatch
end

