-- ==== Sys2Proof/Tests/Slice0.lean ====
section
/-! SUPPORT. The model's own tests: the refusals of WellFormed, the decoding of words written out from the spec's encodings,
one step of every instruction with the results of `95_test_vectors.md`, and for each obligation with hypotheses a state that
meets them. Vector names (K, D, X, V, Y, H) are those of that file. -/

namespace Sys2Proof.Tests

open Machine

/-! ### Small states -/

/-- An open session: LRC, NAD 0x00, `ifs` 2, small buffers. -/
def idle : State := { State.reset with
  st := .idle, ifs := 0x02, cfg := { Config.default with apduMax := 8, respMax := 4 } }

/-- AWAIT_ACK after X2: the first two of five bytes sent. -/
def sending : State := { idle with
  st := .awaitAck, txBuf := [1, 2, 3, 4, 5], fragLen := 2, lastTx := [0x00, 0x20, 0x02, 0x01, 0x02, 0x21], rxPending := true }

/-- AWAIT_RESP after a one-byte APDU. -/
def awaiting : State := { idle with
  st := .awaitResp, txBuf := [0], fragLen := 1, lastTx := [0x00, 0x00, 0x01, 0x00, 0x01], rxPending := true }

/-- RECEIVING after X16. -/
def receiving : State := { idle with
  st := .receiving, txBuf := [0], fragLen := 1, ns := true, nr := true, rxBuf := [0xAA, 0xBB]
  lastTx := [0x00, 0x90, 0x00, 0x90], rxPending := true }

/-- RESYNCING after Y1. -/
def resyncing : State := { idle with
  st := .resyncing, ns := true, nr := true, lastTx := [0x00, 0xC0, 0x00, 0xC0], rxPending := true }

/-- An engine after a failed resynchronization. -/
def dead : State := { idle with st := .dead }

/-- The state with the one event offered. -/
def offered (e : Event) (s : State) : State := { s with inbox := [e] }

/-- The state with the one frame offered. -/
def card (f : ByteString) (s : State) : State := offered (.rx (.frame f)) s

/-- The state with the one command word offered. -/
def host (w : CommandWord) (s : State) : State := offered (.cmd w []) s

/-- What a test reads of one step: the messages, the control state, `ns`, `nr`, `retry`; none when the step stops. -/
def seen (s : State) : Option (List Message × St × Bool × Bool × Nat) :=
  match step s with
  | .next t => some (t.outbox, t.st, t.ns, t.nr, t.retry.toNat)
  | .fault _ => none
  | .refused _ => none

/-- The state after one step, read by `view`. -/
def after {α : Type} (view : State → α) (s : State) : Option α :=
  match step s with
  | .next t => some (view t)
  | .fault _ => none
  | .refused _ => none

/-! ### WellFormed refuses an ill-formed term of each check -/

/-- INF of 256 bytes, one more than LEN can say (R90). -/
def tooLong : ByteString := List.replicate 256 0

theorem test_ill_formed_inf_info : (Instr.iAwaitAck false false tooLong).wellFormed = false ∧
    (Instr.iAwaitRespInSeq false false tooLong).wellFormed = false ∧
    (Instr.iAwaitRespOutOfSeq false false tooLong).wellFormed = false ∧
    (Instr.iReceivingInSeq false false tooLong).wellFormed = false ∧
    (Instr.iReceivingDuplicate false false tooLong).wellFormed = false := by decide +kernel

theorem test_ill_formed_inf_supervisory : (Instr.sWtxReq tooLong).wellFormed = false ∧
    (Instr.sIfsReq tooLong).wellFormed = false ∧ (Instr.sAbortReq tooLong).wellFormed = false ∧
    (Instr.sResynchReq tooLong).wellFormed = false ∧ (Instr.sResynchResp tooLong).wellFormed = false ∧
    (Instr.sIfsResp tooLong).wellFormed = false ∧ (Instr.sAbortResp tooLong).wellFormed = false ∧
    (Instr.sWtxResp tooLong).wellFormed = false ∧ (Instr.sOther false 4 tooLong).wellFormed = false := by decide +kernel

theorem test_ill_formed_block : (Instr.anyResyncing (.info false false tooLong)).wellFormed = false ∧
    (Instr.anyResyncing (.supervisory false 0 tooLong)).wellFormed = false := by decide +kernel

theorem test_ill_formed_error_code : (Instr.rError false 0).wellFormed = false := by decide

theorem test_ill_formed_type : (Instr.sOther false 3 []).wellFormed = false ∧
    (Instr.sOther true 0 []).wellFormed = false := by decide

theorem test_ill_formed_resynch_response : (Instr.anyResyncing (.supervisory true 0 [])).wellFormed = false := by decide

/-! ### Checksums and frames (§2.1, §2.2) -/

theorem test_K1 : checksum .standard .lrc [0x00, 0x00, 0x00] = [0x00] ∧
    checksum .standard .crc [0x00, 0x00, 0x00] = [0x39, 0x33] := by decide +kernel

theorem test_K4 : checksum .standard .lrc [0x21, 0x20, 0x02, 0x01, 0x02] = [0x00] ∧
    checksum .standard .crc [0x21, 0x20, 0x02, 0x01, 0x02] = [0x5B, 0x7C] := by decide +kernel

/-- The check value of R134 over the ASCII bytes "123456789". -/
theorem test_crc_check_value : crc16Default [0x31, 0x32, 0x33, 0x34, 0x35, 0x36, 0x37, 0x38, 0x39] = 0x6F91 := by
  decide +kernel

theorem test_D1_D2_D3 : decodeFrame .standard .lrc [] = .framingShort ∧
    decodeFrame .standard .lrc [0x00, 0x90, 0x00] = .framingShort ∧
    decodeFrame .standard .crc [0x00, 0x90, 0x00, 0x90] = .framingShort := by decide

theorem test_D6_D9 : decodeFrame .standard .lrc [0x00, 0x90, 0x00, 0x20, 0x6E] = .checksumLength ∧
    decodeFrame .standard .lrc [0x00, 0x90, 0x00, 0x6F] = .checksumEdc := by decide

theorem test_D8 : decodeFrame .standard .crc [0x00, 0x00, 0x01, 0x90, 0x00, 0x92] = .checksumEdc := by decide +kernel

theorem test_D14_D15_D16 : decodeFrame .standard .lrc [0x00, 0x7F, 0x01, 0xAA, 0xD4] = .ok (.info true true [0xAA]) ∧
    decodeFrame .standard .lrc [0x00, 0xA0, 0x00, 0xA0] = .ok (.ready false 0) ∧
    decodeFrame .standard .lrc [0x00, 0x80, 0x01, 0x55, 0xD4] = .ok (.ready false 0) := by decide

theorem test_D23 : decodeFrame .standard .lrc [0x00, 0xFF, 0x00, 0xFF] = .ok (.supervisory true 31 []) := by decide

theorem test_E3 : encodeI .standard .lrc 0x00 true true [0x03, 0x04] = [0x00, 0x60, 0x02, 0x03, 0x04, 0x65] := by decide

theorem test_E8_E14 : encodeR .standard .crc 0x00 true = [0x00, 0x90, 0x00, 0x20, 0x6E] ∧
    encodeSResync .standard .crc 0x21 = [0x21, 0xC0, 0x00, 0xAA, 0x7E] := by decide +kernel

/-! ### Every row decodes from its word (R97 to R101, R107), the frame written out byte by byte -/

/-- The decoding context of an LRC session with `ns` = `nr` = 0. -/
def ctx (st : St) : DecodeCtx := ⟨.standard, .lrc, st, false, false⟩

/-- What the frame decodes to in the control state `st`. -/
def decoded (st : St) (f : ByteString) : Decoded := decode (ctx st) (.rx (.frame f))

theorem test_decode_iAwaitAck : decoded .awaitAck [0x00, 0x00, 0x02, 0x90, 0x00, 0x92] =
    .instr (.iAwaitAck false false [0x90, 0x00]) := by decide

theorem test_decode_iAwaitRespInSeq : decoded .awaitResp [0x00, 0x20, 0x02, 0xAA, 0xBB, 0x33] =
    .instr (.iAwaitRespInSeq false true [0xAA, 0xBB]) := by decide

theorem test_decode_iAwaitRespOutOfSeq : decoded .awaitResp [0x00, 0x40, 0x02, 0x90, 0x00, 0xD2] =
    .instr (.iAwaitRespOutOfSeq true false [0x90, 0x00]) := by decide

theorem test_decode_iReceivingInSeq : decoded .receiving [0x00, 0x1F, 0x00, 0x1F] =
    .instr (.iReceivingInSeq false false []) := by decide

theorem test_decode_iReceivingDuplicate : decoded .receiving [0x00, 0x60, 0x00, 0x60] =
    .instr (.iReceivingDuplicate true true []) := by decide

theorem test_decode_rError : decoded .awaitAck [0x00, 0xB5, 0x00, 0xB5] = .instr (.rError true 5) ∧
    decoded .receiving [0x00, 0x8F, 0x00, 0x8F] = .instr (.rError false 15) := by decide

theorem test_decode_rAwaitAckAck : decoded .awaitAck [0x00, 0x90, 0x00, 0x90] = .instr (.rAwaitAckAck true) := by decide

theorem test_decode_rAwaitAckNoAdvance :
    decoded .awaitAck [0x00, 0x80, 0x00, 0x80] = .instr (.rAwaitAckNoAdvance false) := by decide

theorem test_decode_rAwaitResp : decoded .awaitResp [0x00, 0x90, 0x00, 0x90] = .instr (.rAwaitResp true) := by decide

theorem test_decode_rReceiving : decoded .receiving [0x00, 0xA0, 0x00, 0xA0] = .instr (.rReceiving false) := by decide

theorem test_decode_sWtxReq : decoded .awaitAck [0x00, 0xC3, 0x01, 0x02, 0xC0] = .instr (.sWtxReq [0x02]) := by decide

theorem test_decode_sIfsReq : decoded .awaitResp [0x00, 0xC1, 0x01, 0xFE, 0x3E] = .instr (.sIfsReq [0xFE]) := by decide

theorem test_decode_sAbortReq : decoded .receiving [0x00, 0xC2, 0x00, 0xC2] = .instr (.sAbortReq []) := by decide

theorem test_decode_sResynchReq : decoded .awaitResp [0x00, 0xC0, 0x00, 0xC0] = .instr (.sResynchReq []) := by decide

theorem test_decode_sResynchRespResyncing :
    decoded .resyncing [0x00, 0xE0, 0x00, 0xE0] = .instr .sResynchRespResyncing := by decide

theorem test_decode_sResynchResp : decoded .awaitAck [0x00, 0xE0, 0x00, 0xE0] = .instr (.sResynchResp []) := by decide

theorem test_decode_sIfsResp : decoded .awaitResp [0x00, 0xE1, 0x01, 0x20, 0xC0] = .instr (.sIfsResp [0x20]) := by decide

theorem test_decode_sAbortResp : decoded .awaitResp [0x00, 0xE2, 0x00, 0xE2] = .instr (.sAbortResp []) := by decide

theorem test_decode_sWtxResp : decoded .awaitResp [0x00, 0xE3, 0x01, 0x02, 0xE0] = .instr (.sWtxResp [0x02]) := by decide

theorem test_decode_sOther : decoded .awaitResp [0x00, 0xC4, 0x00, 0xC4] = .instr (.sOther false 4 []) ∧
    decoded .awaitResp [0x00, 0xFF, 0x00, 0xFF] = .instr (.sOther true 31 []) := by decide

theorem test_decode_anyResyncing : decoded .resyncing [0x00, 0xE0, 0x01, 0x00, 0xE1] =
      .instr (.anyResyncing (.supervisory true 0 [0x00])) ∧
    decoded .resyncing [0x00, 0x90, 0x00, 0x90] = .instr (.anyResyncing (.ready true 0)) := by decide

theorem test_decode_openCmd : decode (ctx .closed) (.cmd 0x00202111 []) = .instr (.openCmd true 0x21 0x20) ∧
    decode (ctx .closed) (.cmd 0x00FE0001 []) = .instr (.openCmd false 0x00 0xFE) := by decide

theorem test_decode_closeCmd : decode (ctx .idle) (.cmd 0x00000002 []) = .instr .closeCmd := by decide

theorem test_decode_exchangeCmd : decode (ctx .idle) (.cmd 0x00000003 [0x2A]) = .instr (.exchangeCmd [0x2A]) := by decide

theorem test_decode_cancel : decode (ctx .awaitAck) (.cmd 0x00000004 []) = .instr .cancelBusy ∧
    decode (ctx .idle) (.cmd 0x00000004 []) = .instr .cancelNotBusy := by decide

theorem test_decode_resyncCmd : decode (ctx .idle) (.cmd 0x00000005 []) = .instr .resyncCmd := by decide

/-- H17 to H22: the words that are not well-formed. -/
theorem test_decode_bad_words : decodeCommand false 0x00000006 [] = none ∧ decodeCommand false 0x00000000 [] = none ∧
    decodeCommand false 0x00000102 [] = none ∧ decodeCommand false 0x10000004 [] = none ∧
    decodeCommand false 0x01200001 [] = none ∧ decodeCommand false 0x00200021 [] = none := by decide

/-- The words of spec/opcode_table.json, through the host's entry point. -/
theorem test_decodeTableWord : decodeTableWord 8 0x90 = some (.rAwaitAckAck true) ∧
    decodeTableWord 8 0x40 = some (.iAwaitRespOutOfSeq true false []) ∧ decodeTableWord 8 0xC2 = some (.sAbortReq []) ∧
    decodeTableWord 32 0x00000005 = some .resyncCmd ∧ decodeTableWord 32 0x00000006 = none := by decide

/-- The word placed by `withFetchWord` is the one the next step runs: R(1) in AWAIT_ACK sends the next fragment. -/
theorem test_withFetchWord_frame :
    after (fun t => (t.ns, t.st)) (State.reset.withFetchWord 8 0x90) = some (true, .awaitResp) := by decide

theorem test_withFetchWord_command :
    seen (State.reset.withFetchWord 32 0x00200001) = some ([.result .ok 0x00 []], .idle, false, false, 0) := by decide

/-! ### One step of every instruction -/

theorem test_X12_iAwaitAck : seen (card [0x00, 0x00, 0x02, 0x90, 0x00, 0x92] sending) =
    some ([.tx [0x00, 0x20, 0x02, 0x01, 0x02, 0x21] 1], .awaitAck, false, false, 1) := by decide

theorem test_X13_iAwaitRespInSeq : seen (card [0x00, 0x00, 0x02, 0x90, 0x00, 0x92] awaiting) =
    some ([.result .ok 0x00 [0x90, 0x00]], .idle, true, true, 0) := by decide

theorem test_X16_iAwaitRespInSeq_chained : seen (card [0x00, 0x20, 0x02, 0xAA, 0xBB, 0x33] awaiting) =
    some ([.tx [0x00, 0x90, 0x00, 0x90] 1], .receiving, true, true, 0) := by decide

theorem test_X14_iAwaitRespOutOfSeq : seen (card [0x00, 0x40, 0x02, 0x90, 0x00, 0xD2] awaiting) =
    some ([.tx [0x00, 0x00, 0x01, 0x00, 0x01] 1], .awaitResp, false, false, 0) := by decide

theorem test_X17_iReceivingInSeq : seen (card [0x00, 0x40, 0x01, 0xCC, 0x8D] receiving) =
    some ([.result .ok 0x00 [0xAA, 0xBB, 0xCC]], .idle, true, false, 0) := by decide

theorem test_X27_iReceivingInSeq_overflow :
    seen (card [0x00, 0x40, 0x02, 0x90, 0x00, 0xD2] { receiving with cfg := { Config.default with respMax := 3 } }) =
      some ([.result .eResponseOverflow 0x00 []], .idle, true, true, 0) := by decide

theorem test_X19_iReceivingDuplicate : seen (card [0x00, 0x20, 0x02, 0xAA, 0xBB, 0x33] receiving) =
    some ([.tx [0x00, 0x90, 0x00, 0x90] 1], .receiving, true, true, 0) := by decide

theorem test_X9_rError : after (fun t => (t.retry, t.lastCause, t.ns)) (card [0x00, 0xB5, 0x00, 0xB5] sending) =
    some (1, 0x25, false) := by decide

theorem test_X5_rAwaitAckAck : seen (card [0x00, 0x90, 0x00, 0x90] sending) =
    some ([.tx [0x00, 0x60, 0x02, 0x03, 0x04, 0x65] 1], .awaitAck, true, false, 0) := by decide

theorem test_X6_rAwaitAckAck_last :
    seen (card [0x00, 0x80, 0x00, 0x80] { sending with ns := true, txOff := 2 }) =
      some ([.tx [0x00, 0x00, 0x01, 0x05, 0x04] 1], .awaitResp, false, false, 0) := by decide

theorem test_X7_rAwaitAckNoAdvance : seen (card [0x00, 0x80, 0x00, 0x80] sending) =
    some ([.tx [0x00, 0x20, 0x02, 0x01, 0x02, 0x21] 1], .awaitAck, false, false, 1) := by decide

theorem test_X15_rAwaitResp : after (fun t => (t.retry, t.lastCause)) (card [0x00, 0x90, 0x00, 0x90] awaiting) =
    some (1, 0x30) := by decide

theorem test_X20_rReceiving : seen (card [0x00, 0x90, 0x00, 0x90] receiving) =
    some ([.tx [0x00, 0x90, 0x00, 0x90] 1], .receiving, true, true, 1) := by decide

theorem test_V1_sWtxReq : after (fun t => (t.outbox, t.wtxMult, t.retry)) (card [0x00, 0xC3, 0x01, 0x02, 0xC0] awaiting) =
    some ([.tx [0x00, 0xE3, 0x01, 0x02, 0xE0] 2], 2, 0) := by decide

theorem test_V11_sWtxReq_ill_formed :
    after (fun t => (t.retry, t.lastCause)) (card [0x00, 0xC3, 0x01, 0x00, 0xC2] awaiting) = some (1, 0x30) := by decide

theorem test_V4_sIfsReq : after (fun t => (t.outbox, t.ifs)) (card [0x00, 0xC1, 0x01, 0x04, 0xC4] sending) =
    some ([.tx [0x00, 0xE1, 0x01, 0x04, 0xE4] 1], 4) := by decide

theorem test_V10_sIfsReq_ill_formed :
    after (fun t => (t.retry, t.ifs)) (card [0x00, 0xC1, 0x01, 0xFF, 0x3F] awaiting) = some (1, 2) := by decide

theorem test_V6_sAbortReq : after (fun t => (t.outbox, t.st, t.rxPending)) (card [0x00, 0xC2, 0x00, 0xC2] receiving) =
    some ([.tx [0x00, 0xE2, 0x00, 0xE2] 0, .result .eCardAbort 0x00 []], .idle, false) := by decide

theorem test_V12_sAbortReq_ill_formed :
    after (fun t => (t.retry, t.lastCause)) (card [0x00, 0xC2, 0x01, 0x00, 0xC3] awaiting) = some (1, 0x30) := by decide

theorem test_V7_sResynchReq : after (fun t => (t.retry, t.lastCause)) (card [0x00, 0xC0, 0x00, 0xC0] awaiting) =
    some (1, 0x30) := by decide

theorem test_Y2_sResynchRespResyncing : seen (card [0x00, 0xE0, 0x00, 0xE0] resyncing) =
    some ([.result .ok 0x00 []], .idle, false, false, 0) := by decide

theorem test_Y9_sResynchRespResyncing_auto :
    seen (card [0x00, 0xE0, 0x00, 0xE0] { resyncing with origin := .auto, lastCause := 0x10 }) =
      some ([.result .eRetryExceeded 0x90 []], .idle, false, false, 0) := by decide

theorem test_sResynchResp : after (fun t => (t.retry, t.lastCause)) (card [0x00, 0xE0, 0x00, 0xE0] awaiting) =
    some (1, 0x30) := by decide

theorem test_V8_sIfsResp : after (fun t => (t.retry, t.lastCause)) (card [0x00, 0xE1, 0x01, 0x20, 0xC0] awaiting) =
    some (1, 0x30) := by decide

theorem test_sAbortResp : after (fun t => (t.retry, t.lastCause)) (card [0x00, 0xE2, 0x00, 0xE2] receiving) =
    some (1, 0x30) := by decide

theorem test_sWtxResp : after (fun t => (t.retry, t.lastCause)) (card [0x00, 0xE3, 0x01, 0x02, 0xE0] sending) =
    some (1, 0x30) := by decide

theorem test_V9_sOther : after (fun t => (t.retry, t.lastCause)) (card [0x00, 0xC4, 0x00, 0xC4] awaiting) =
    some (1, 0x30) := by decide

theorem test_Y4_anyResyncing : seen (card [0x00, 0xC3, 0x01, 0x02, 0xC0] { resyncing with retry := 1 }) =
    some ([.tx [0x00, 0xC0, 0x00, 0xC0] 1], .resyncing, true, true, 2) := by decide

theorem test_anyResyncing_last_attempt : seen (card [0x00, 0xC3, 0x01, 0x02, 0xC0] { resyncing with retry := 3 }) =
    some ([.result .eResyncFailed 0x00 []], .dead, true, true, 4) := by decide

theorem test_H3_openCmd : after (fun t => (t.st, t.edc, t.nad, t.ifs)) (host 0x00202111 State.reset) =
    some (.idle, .crc, 0x21, 0x20) := by decide

theorem test_H4_openCmd_bad_param : seen (host 0x00FF0001 State.reset) =
    some ([.result .eBadParam 0x00 []], .closed, false, false, 0) := by decide

theorem test_H7_closeCmd : after (fun t => (t.st, t.outbox, t.rxPending)) (host 0x00000002 idle) =
    some (.closed, [.result .ok 0x00 []], false) := by decide

theorem test_X2_exchangeCmd : seen (offered (.cmd 0x00000003 [1, 2, 3, 4, 5]) idle) =
    some ([.tx [0x00, 0x20, 0x02, 0x01, 0x02, 0x21] 1], .awaitAck, false, false, 0) := by decide

theorem test_H9_exchangeCmd_closed : seen (offered (.cmd 0x00000003 [0x00]) State.reset) =
    some ([.result .eNotOpen 0x00 []], .closed, false, false, 0) := by decide

theorem test_H14_cancelBusy : seen (host 0x00000004 receiving) =
    some ([.rdCancel, .result .eCancelled 0x00 []], .idle, true, true, 0) := by decide

theorem test_H16_cancelNotBusy : seen (host 0x00000004 idle) = some ([], .idle, false, false, 0) := by decide

theorem test_Y1_resyncCmd : seen (host 0x00000005 { idle with ns := true, nr := true }) =
    some ([.tx [0x00, 0xC0, 0x00, 0xC0] 1], .resyncing, true, true, 0) := by decide

/-! ### Receive errors and faults -/

theorem test_X11_retry_exhausted :
    seen (card [0x00, 0x00, 0x02, 0x90, 0x00, 0x93] { awaiting with retry := 3, lastCause := 0x10 }) =
      some ([.result .eRetryExceeded 0x10 []], .idle, false, false, 4) := by decide

theorem test_Y8_auto_resync : after (fun t => (t.st, t.origin, t.retry, t.lastCause))
    (card [0x00, 0x00, 0x02, 0x90, 0x00, 0x93]
      { awaiting with retry := 3, cfg := { Config.default with autoResync := true } }) =
    some (.resyncing, .auto, 0, 0x10) := by decide

theorem test_X26_short_in_crc : seen (card [0x00, 0x90, 0x00, 0x90] { awaiting with edc := .crc }) =
    some ([.result .eFraming 0x01 []], .idle, false, false, 0) := by decide

theorem test_Y6_timeout_resyncing : seen (offered (.rx .timeout) { resyncing with retry := 3 }) =
    some ([.result .eResyncFailed 0x00 []], .dead, true, true, 4) := by decide

theorem test_command_while_busy : after (fun t => (t.fault, t.st, t.outbox)) (host 0x00000005 awaiting) =
    some (.hostViolation, .awaitResp, []) := by decide

theorem test_unawaited_reply : after (fun t => (t.fault, t.st, t.outbox)) (offered (.rx .timeout) idle) =
    some (.transportViolation, .idle, []) := by decide

theorem test_faulted_engine : seen (host 0x00000004 { idle with fault := .hostViolation }) = none := by decide

/-! ### Witnesses: for each obligation with hypotheses, states and operands that meet them all together, one for each clause,
at the boundary of a range where the clause has one -/

/-- The step and the row it runs. -/
theorem test_witness_StepRunsTheDecodedInstruction :
    ((host 0x00000005 idle).fault = .none ∧ (host 0x00000005 idle).inbox = [.cmd 0x00000005 []] ∧
      decode (decodeCtx idle) (.cmd 0x00000005 []) = .instr .resyncCmd) ∧
    ((card [0x00, 0x90, 0x00, 0x90] sending).fault = .none ∧
      (card [0x00, 0x90, 0x00, 0x90] sending).inbox = [.rx (.frame [0x00, 0x90, 0x00, 0x90])] ∧
      decode (decodeCtx sending) (.rx (.frame [0x00, 0x90, 0x00, 0x90])) = .instr (.rAwaitAckAck true) ∧
      sending.rxPending = true ∧ busy sending.st = true) := by decide

theorem test_witness_NoEventLeavesTheStateUnchanged : idle.fault = .none ∧ idle.inbox = [] := by decide

theorem test_witness_FaultedEngineTakesNoStep :
    ({ idle with fault := .hostViolation } : State).fault = .hostViolation ∧
    ({ idle with fault := .transportViolation } : State).fault = .transportViolation := by decide

theorem test_witness_CommandWhileBusyIsAHostViolation :
    (host 0x00000005 awaiting).fault = .none ∧ (host 0x00000005 awaiting).inbox = [.cmd 0x00000005 []] ∧
    busy awaiting.st = true ∧ (0x00000005 : CommandWord) ≠ 0x00000004 := by decide

theorem test_witness_UnawaitedReplyIsATransportViolation :
    ((offered (.rx .timeout) idle).fault = .none ∧ (offered (.rx .timeout) idle).inbox = [.rx .timeout] ∧
      idle.rxPending = false) ∧
    ((offered (.rx .timeout) { idle with rxPending := true }).inbox = [.rx .timeout] ∧ busy idle.st = false) := by decide

theorem test_witness_FaultsMarkOnlyContractViolations :
    (∃ t, step (host 0x00000005 awaiting) = .next t ∧ t.fault = .hostViolation) ∧
    (∃ t, step (offered (.rx .timeout) idle) = .next t ∧ t.fault = .transportViolation) :=
  ⟨⟨_, rfl, by decide⟩, ⟨_, rfl, by decide⟩⟩

theorem test_witness_IllFormedWordIsRejected :
    ¬ wordWellFormed 0x00000006 ∧ ¬ wordWellFormed 0x00200021 ∧ ¬ wordWellFormed 0x00000012 ∧
    ((host 0x00000006 idle).fault = .none ∧ (host 0x00000006 idle).inbox = [.cmd 0x00000006 []] ∧ busy idle.st = false) ∧
    ((host 0x00000006 awaiting).fault = .none ∧ (host 0x00000006 awaiting).inbox = [.cmd 0x00000006 []] ∧
      busy awaiting.st = true) := by
  unfold wordWellFormed
  decide

theorem test_witness_ParametersNeverChange : ∃ t, step (host 0x00000002 idle) = .next t ∧ t.cfg = idle.cfg :=
  ⟨_, rfl, rfl⟩

theorem test_witness_EveryInstructionRoundTrips :
    ((Instr.sWtxReq (List.replicate 255 0)).wellFormed = true ∧ rowSelected (ctx .awaitResp) (.sWtxReq (List.replicate 255 0)) = true) ∧
    ((Instr.rAwaitAckAck true).wellFormed = true ∧ rowSelected (ctx .awaitAck) (.rAwaitAckAck true) = true) ∧
    ((Instr.openCmd true 0xFF 0xFF).wellFormed = true ∧ rowSelected (ctx .closed) (.openCmd true 0xFF 0xFF) = true) := by
  decide +kernel

theorem test_witness_DecodedInstructionIsWellFormedAndSelected :
    decode (ctx .awaitAck) (.rx (.frame [0x00, 0x81, 0x00, 0x81])) = .instr (.rError false 1) := by decide

theorem test_witness_EngineFramesDecodeBack :
    (List.replicate 254 (0 : Byte)).length ≤ 254 ∧ ([0xFE] : ByteString).length ≤ 1 ∧ ([] : ByteString).length ≤ 1 := by
  decide +kernel

theorem test_witness_DecodeErrorsInOrder :
    ([0x00, 0x90, 0x00] : ByteString).length < 3 + edcLen .lrc ∧
    (3 + edcLen .lrc ≤ ([0x00, 0x90, 0x01, 0x90] : ByteString).length ∧
      ([0x00, 0x90, 0x01, 0x90] : ByteString).length ≠ 3 + (([0x00, 0x90, 0x01, 0x90] : ByteString).getD 2 0).toNat + edcLen .lrc) ∧
    (([0x00, 0x90, 0x00, 0x6F] : ByteString).length = 3 + (([0x00, 0x90, 0x00, 0x6F] : ByteString).getD 2 0).toNat + edcLen .lrc ∧
      checksum .standard .lrc (([0x00, 0x90, 0x00, 0x6F] : ByteString).take 3) ≠ ([0x00, 0x90, 0x00, 0x6F] : ByteString).drop 3) := by
  decide

/-- The frame with PCB `p` and no INF, in LRC: its checksum is `p` itself. -/
def pcbFrame (p : Byte) : ByteString := [0x00, p, 0x00, p]

theorem test_witness_PcbSelectsClassAndFields :
    (∀ p ∈ ([0x00, 0x7F, 0x80, 0xBF, 0xC0, 0xFF] : List Byte),
      (pcbFrame p).length = 3 + ((pcbFrame p).getD 2 0).toNat + edcLen .lrc ∧
      checksum .standard .lrc ((pcbFrame p).take 3) = (pcbFrame p).drop 3) ∧
    ((pcbFrame 0x7F).getD 1 0).toNat < 0x80 ∧
    (0x80 ≤ ((pcbFrame 0x80).getD 1 0).toNat ∧ ((pcbFrame 0xBF).getD 1 0).toNat < 0xC0) ∧
    0xC0 ≤ ((pcbFrame 0xC0).getD 1 0).toNat := by decide

theorem test_witness_SingleByteChangeIsAChecksumError :
    decodeFrame .standard .lrc [0x00, 0x90, 0x00, 0x90] = .ok (.ready true 0) ∧
    decodeFrame .standard .crc [0x00, 0x90, 0x00, 0x20, 0x6E] = .ok (.ready true 0) ∧
    2 < ([0x00, 0x90, 0x00, 0x90] : ByteString).length ∧ ([0x00, 0x90, 0x00, 0x90] : ByteString).getD 2 0 ≠ 0x01 ∧
    4 < ([0x00, 0x90, 0x00, 0x20, 0x6E] : ByteString).length ∧
    ([0x00, 0x90, 0x00, 0x20, 0x6E] : ByteString).getD 4 0 ≠ 0x6F := by decide +kernel

/-! #### Receive errors -/

theorem test_witness_TimeoutAborts : ∀ s ∈ [sending, awaiting, receiving],
    (offered (.rx .timeout) s).fault = .none ∧ (offered (.rx .timeout) s).inbox = [.rx .timeout] ∧
    s.rxPending = true ∧ inExchange s.st = true := by decide

theorem test_witness_TransportErrorAborts : ∀ s ∈ [sending, awaiting, receiving],
    (offered (.rx .transportError) s).fault = .none ∧ (offered (.rx .transportError) s).inbox = [.rx .transportError] ∧
    s.rxPending = true ∧ inExchange s.st = true := by decide

theorem test_witness_ShortFrameAborts : ∀ s ∈ [sending, awaiting, receiving],
    (card [0x00, 0x90, 0x00] s).fault = .none ∧ (card [0x00, 0x90, 0x00] s).inbox = [.rx (.frame [0x00, 0x90, 0x00])] ∧
    s.rxPending = true ∧ inExchange s.st = true ∧ ([0x00, 0x90, 0x00] : ByteString).length < 3 + edcLen s.edc := by decide

theorem test_witness_ChecksumErrorIsRecoverable : ∀ s ∈ [sending, awaiting, receiving],
    (card [0x00, 0x90, 0x00, 0x6F] s).fault = .none ∧
    (card [0x00, 0x90, 0x00, 0x6F] s).inbox = [.rx (.frame [0x00, 0x90, 0x00, 0x6F])] ∧
    s.rxPending = true ∧ inExchange s.st = true ∧
    decodeFrame s.cfg.crc16Fn s.edc [0x00, 0x90, 0x00, 0x6F] = .checksumEdc ∧
    decodeFrame s.cfg.crc16Fn s.edc [0x00, 0x90, 0x01, 0x90] = .checksumLength := by decide

/-- The three outcomes of a recoverable error, at the bound: the last retry left, none left, none left with AUTO_RESYNC. -/
theorem test_witness_Recovered :
    (({ awaiting with retry := 2 } : State).retry.toNat + 1 ≤ awaiting.cfg.retryMax) ∧
    (({ awaiting with retry := 3 } : State).cfg.retryMax < ({ awaiting with retry := 3 } : State).retry.toNat + 1 ∧
      awaiting.cfg.autoResync = false) ∧
    (({ Config.default with autoResync := true } : Config).retryMax < (3 : BitVec 8).toNat + 1 ∧
      ({ Config.default with autoResync := true } : Config).autoResync = true) := by decide

/-! #### Received blocks -/

theorem test_witness_PositiveAckSendsTheNextFragment :
    (sending.st = .awaitAck ∧ true = !sending.ns ∧ sending.txOff.toNat + sending.fragLen.toNat < 2 ^ 32) ∧
    (({ sending with txOff := 0xFFFFFFFD } : State).txOff.toNat + sending.fragLen.toNat = 2 ^ 32 - 1) := by decide

theorem test_witness_ErrorRBlockIsRecoverable : (∀ s ∈ [sending, awaiting, receiving], inExchange s.st = true) ∧
    (1 : BitVec 4) ≠ 0 ∧ (15 : BitVec 4) ≠ 0 := by decide

theorem test_witness_UselessRBlockIsRecoverable : (sending.st = .awaitAck ∧ false = sending.ns) ∧
    awaiting.st = .awaitResp ∧ receiving.st = .receiving := by decide

theorem test_witness_IBlockInAwaitAckIsRecoverable : sending.st = .awaitAck := by decide

theorem test_witness_FirstResponseBlockIsAccepted : awaiting.st = .awaitResp := by decide

theorem test_witness_NextResponseBlockIsAccepted : receiving.st = .receiving := by decide

/-- The outcomes of `Accept` at the capacity: five bytes do not fit in four, four do, chained or last. -/
theorem test_witness_Accepted :
    receiving.cfg.respMax < receiving.rxBuf.length + ([1, 2, 3] : ByteString).length ∧
    receiving.rxBuf.length + ([1, 2] : ByteString).length ≤ receiving.cfg.respMax ∧
    receiving.rxBuf.length + ([1, 2] : ByteString).length = receiving.cfg.respMax := by decide

theorem test_witness_WrongSequenceBitResends : (true ≠ awaiting.nr ∧ awaiting.st = .awaitResp) ∧
    (false ≠ receiving.nr ∧ receiving.st = .receiving) := by decide

theorem test_witness_WtxRequestIsAnswered : (∀ s ∈ [sending, awaiting, receiving], inExchange s.st = true) ∧
    1 ≤ (0x01 : Byte).toNat ∧ 1 ≤ (0xFF : Byte).toNat := by decide

theorem test_witness_IfsRequestIsAnswered : (∀ s ∈ [sending, awaiting, receiving], inExchange s.st = true) ∧
    (1 ≤ (0x01 : Byte).toNat ∧ (0x01 : Byte).toNat ≤ 254) ∧ (1 ≤ (0xFE : Byte).toNat ∧ (0xFE : Byte).toNat ≤ 254) := by decide

theorem test_witness_AbortRequestEndsTheExchange : ∀ s ∈ [sending, awaiting, receiving], inExchange s.st = true := by decide

theorem test_witness_UnexpectedSBlockIsRecoverable : (∀ s ∈ [sending, awaiting, receiving], inExchange s.st = true) ∧
    4 ≤ (4 : BitVec 5).toNat ∧ 4 ≤ (31 : BitVec 5).toNat := by decide

theorem test_witness_IllFormedSBlockIsRecoverable : (∀ s ∈ [sending, awaiting, receiving], inExchange s.st = true) ∧
    ([] : ByteString).length ≠ 1 ∧ ([0x01, 0x02] : ByteString).length ≠ 1 ∧ ([0x00] : ByteString).length ≠ 0 := by decide

theorem test_witness_ResyncResponseResetsTheSequence : resyncing.st = .resyncing ∧ resyncing.origin = .host ∧
    ({ resyncing with origin := .auto } : State).origin ≠ .host := by decide

theorem test_witness_OtherBlockIsAFailedAttempt : resyncing.st = .resyncing ∧
    Block.supervisory true 0 [0x00] ≠ .supervisory true 0 [] ∧ Block.ready true 0 ≠ .supervisory true 0 [] := by decide

theorem test_witness_OnlyTheResyncResponseCounts :
    ((offered (.rx .timeout) resyncing).fault = .none ∧ (offered (.rx .timeout) resyncing).inbox = [.rx .timeout] ∧
      resyncing.rxPending = true ∧ resyncing.st = .resyncing ∧
      ∀ f, RxEvent.timeout = .frame f →
        decodeFrame resyncing.cfg.crc16Fn resyncing.edc f ≠ .ok (.supervisory true 0 [])) ∧
    (∀ f, RxEvent.frame [0x00, 0xE0, 0x01, 0x00, 0xE1] = .frame f →
      decodeFrame resyncing.cfg.crc16Fn resyncing.edc f ≠ .ok (.supervisory true 0 [])) :=
  ⟨⟨rfl, rfl, rfl, rfl, fun _ h => by cases h⟩, fun f h => by cases h; decide⟩

/-- The two outcomes of a failed attempt, at the bound. -/
theorem test_witness_AttemptFailed :
    ({ resyncing with retry := 2 } : State).retry.toNat + 1 ≤ resyncing.cfg.retryMax ∧
    resyncing.cfg.retryMax < ({ resyncing with retry := 3 } : State).retry.toNat + 1 := by decide

/-! #### Host commands -/

theorem test_witness_OpenCreatesTheSession : (∀ s ∈ [State.reset, idle, dead], busy s.st = false) ∧
    (1 ≤ (0x01 : Byte).toNat ∧ (0x01 : Byte).toNat ≤ 254) ∧ (1 ≤ (0xFE : Byte).toNat ∧ (0xFE : Byte).toNat ≤ 254) := by decide

theorem test_witness_CloseEndsTheSession : ∀ s ∈ [State.reset, idle, dead], busy s.st = false := by decide

theorem test_witness_ExchangeSendsTheFirstFragment : idle.st = .idle ∧
    (List.replicate 8 (0 : Byte)).length ≤ idle.cfg.apduMax := by decide

theorem test_witness_ExchangeIsRejected : State.reset.st = .closed ∧ dead.st = .dead ∧
    (idle.st = .idle ∧ idle.cfg.apduMax < (List.replicate 9 (0 : Byte)).length) := by decide

theorem test_witness_ResyncSendsTheRequest : idle.st = .idle ∧ State.reset.st = .closed ∧ dead.st = .dead := by decide

theorem test_witness_CancelEndsTheCommand : ∀ s ∈ [sending, awaiting, receiving, resyncing], busy s.st = true := by decide

theorem test_witness_CancelWhileNotBusyDoesNothing : ∀ s ∈ [State.reset, idle, dead], busy s.st = false := by decide

/-! #### Invariants and rules over the whole machine -/

/-- Each of the small busy states meets the invariants, the busy ones with the frame a retransmission resends. -/
theorem test_sound_sending : Sound sending ∧ LastTxIsTheBlockInFlight sending :=
  ⟨⟨by decide, fun _ => ⟨by decide, by decide, by decide, by decide, by decide, by decide, by decide, by decide, by decide⟩,
    by decide, by decide, by decide, by decide, by decide, by decide⟩, rfl⟩

theorem test_sound_awaiting : Sound awaiting ∧ LastTxIsTheBlockInFlight awaiting :=
  ⟨⟨by decide, fun _ => ⟨by decide, by decide, by decide, by decide, by decide, by decide, by decide, by decide, by decide⟩,
    by decide, by decide, by decide, by decide, by decide, by decide⟩, rfl⟩

theorem test_sound_offered (s : State) (e : Event) (h : Sound s) : Sound (offered e s) :=
  ⟨h.cfg_legal, fun hc => let k := h.session hc
    ⟨k.ifs_range, k.retry_bound, k.rxBuf_bound, k.txBuf_bound, k.fragment_inside, k.more_in_awaitAck, k.none_in_awaitResp,
      k.pending_iff_busy, k.idle_buffers⟩,
    h.closed_quiet, h.busy_retry, h.resync_buffers, h.wtxMult_pos, h.cause_legal, h.fragLen_legal⟩

theorem test_witness_EveryStepKeepsTheInvariant :
    ∃ s t, Sound s ∧ step s = .next t ∧ s.st = .awaitAck ∧ t.txOff = 2 :=
  ⟨card [0x00, 0x90, 0x00, 0x90] sending, _, test_sound_offered _ _ test_sound_sending.1, rfl, by decide, by decide⟩

theorem test_witness_EveryStepKeepsTheBlockInFlight :
    ∃ s t, Sound s ∧ LastTxIsTheBlockInFlight s ∧ step s = .next t ∧ t.lastTx ≠ s.lastTx :=
  ⟨card [0x00, 0x90, 0x00, 0x90] sending, _, test_sound_offered _ _ test_sound_sending.1, test_sound_sending.2, rfl,
    by decide⟩

theorem test_witness_NoSpeculativeToggling :
    (∃ t, step (card [0x00, 0x90, 0x00, 0x90] sending) = .next t ∧ t.ns ≠ sending.ns) ∧
    (∃ t, step (card [0x00, 0x40, 0x01, 0xCC, 0x8D] receiving) = .next t ∧ t.nr ≠ receiving.nr) :=
  ⟨⟨_, rfl, by decide⟩, ⟨_, rfl, by decide⟩⟩

theorem test_witness_SessionConfigurationIsFixed :
    (∃ t, step (host 0x00202111 idle) = .next t ∧ t.edc ≠ idle.edc ∧ t.nad ≠ idle.nad) ∧
    (∃ t, step (card [0x00, 0xC1, 0x01, 0x04, 0xC4] sending) = .next t ∧ t.ifs ≠ sending.ifs) :=
  ⟨⟨_, rfl, by decide⟩, ⟨_, rfl, by decide⟩⟩

theorem test_witness_OneResultPerCommand :
    (∃ t, step (host 0x00000005 idle) = .next t ∧ t.fault = .none ∧ busy t.st = true) ∧
    (∃ t, step (host 0x00000004 idle) = .next t ∧ t.fault = .none ∧ busy idle.st = false) ∧
    (∃ t, step (host 0x00202111 idle) = .next t ∧ t.fault = .none ∧ busy t.st = false) :=
  ⟨⟨_, rfl, by decide⟩, ⟨_, rfl, by decide⟩, ⟨_, rfl, by decide⟩⟩

theorem test_witness_MessagesLeaveInOrder :
    ∃ t, step (card [0x00, 0xC2, 0x00, 0xC2] receiving) = .next t ∧ t.outbox.length = 2 := ⟨_, rfl, by decide⟩

theorem test_witness_OnlyACompletedExchangeReturnsData :
    ∃ t, step (card [0x00, 0x00, 0x02, 0x90, 0x00, 0x92] awaiting) = .next t ∧
      .result .ok 0x00 [0x90, 0x00] ∈ t.outbox := ⟨_, rfl, by decide⟩

theorem test_witness_IdleCommandsSendNothing :
    busy idle.st = false ∧ ∃ t, step (host 0x00202111 idle) = .next t ∧ busy t.st = false := ⟨rfl, _, rfl, by decide⟩

/-- A WTX request of the largest byte, and an event of another kind after a granted wait. -/
theorem test_witness_WtxAppliesToTheNextReadOnly :
    awaiting.rxPending = true ∧ busy awaiting.st = true ∧
    (decode (decodeCtx awaiting) (.rx (.frame [0x00, 0xC3, 0x01, 0xFF, 0x3D])) = .instr (.sWtxReq [0xFF]) ∧
      ∃ t, step (card [0x00, 0xC3, 0x01, 0xFF, 0x3D] awaiting) = .next t ∧ t.wtxMult = 0xFF) ∧
    ((∀ m : Byte, m ≠ 0 → decode (decodeCtx awaiting) (.rx .timeout) ≠ .instr (.sWtxReq [m])) ∧
      ∃ t, step (offered (.rx .timeout) { awaiting with wtxMult := 2 }) = .next t ∧ t.wtxMult = 1) :=
  ⟨rfl, rfl, ⟨by decide, _, rfl, by decide⟩, ⟨fun _ _ h => (by cases h), _, rfl, by decide⟩⟩

theorem test_witness_AReadIsPendingExactlyWhenRequested :
    ∃ s t e, Sound s ∧ s.inbox = [e] ∧ step s = .next t ∧ t.fault = .none ∧ t.rxPending = true :=
  ⟨card [0x00, 0x90, 0x00, 0x90] sending, _, _, test_sound_offered _ _ test_sound_sending.1, rfl, rfl, by decide, by decide⟩

theorem test_witness_EmittedFramesHaveLegalLength :
    ∃ s t, Sound s ∧ LastTxIsTheBlockInFlight s ∧ step s = .next t ∧ t.outbox.length = 1 :=
  ⟨card [0x00, 0x40, 0x02, 0x90, 0x00, 0xD2] awaiting, _, test_sound_offered _ _ test_sound_awaiting.1,
    test_sound_awaiting.2, rfl, by decide⟩

theorem test_witness_CountedErrorResendsTheLastFrame :
    inExchange sending.st = true ∧
    ∃ t, step (card [0x00, 0x80, 0x00, 0x80] sending) = .next t ∧ inExchange t.st = true ∧ t.retry ≠ sending.retry :=
  ⟨rfl, _, rfl, by decide⟩

theorem test_witness_DeadIsLeftOnlyByOpenOrClose :
    dead.st = .dead ∧ (∃ t, step (host 0x00200001 dead) = .next t ∧ t.st = .idle) ∧
    (∃ t, step (host 0x00000002 dead) = .next t ∧ t.st = .closed) := ⟨rfl, ⟨_, rfl, by decide⟩, ⟨_, rfl, by decide⟩⟩

/-! #### Runs -/

/-- EXCHANGE of an APDU, then the acknowledgements of its chained blocks. -/
def exchanging (apdu : ByteString) : State := { idle with
  inbox := .cmd 0x00000003 apdu :: (List.range (fragmentCount apdu.length 2 - 1)).map (fun j =>
    .rx (.frame (mkFrame .standard .lrc 0x00 (ackByte (seqBit false (j + 1))) []))) }

/-- No byte, exactly one block, one byte more. -/
theorem test_witness_FragmentsCarryTheWholeApdu :
    ∀ apdu ∈ ([[], [1, 2], [1, 2, 3]] : List ByteString),
      (exchanging apdu).fault = .none ∧ (exchanging apdu).st = .idle ∧ (exchanging apdu).cfg.Legal ∧
      1 ≤ (exchanging apdu).ifs.toNat ∧ apdu.length ≤ (exchanging apdu).cfg.apduMax ∧
      (exchanging apdu).inbox = .cmd 0x00000003 apdu ::
        (List.range (fragmentCount apdu.length (exchanging apdu).ifs.toNat - 1)).map (fun j =>
          .rx (.frame (mkFrame .standard .lrc 0x00 (ackByte (seqBit (exchanging apdu).ns (j + 1))) []))) := by decide +kernel

/-- A response in two blocks, which fills the buffer. -/
def answered : State := { awaiting with
  inbox := [.rx (.frame [0x00, 0x20, 0x02, 0xAA, 0xBB, 0x33]), .rx (.frame [0x00, 0x40, 0x02, 0x90, 0x00, 0xD2])] }

theorem test_witness_ResponseIsTheConcatenation :
    answered.fault = .none ∧ answered.st = .awaitResp ∧ answered.rxPending = true ∧ answered.rxBuf = [] ∧
    ([[0xAA, 0xBB], [0x90, 0x00]] : List ByteString) ≠ [] ∧
    (∀ x ∈ ([[0xAA, 0xBB], [0x90, 0x00]] : List ByteString), x.length ≤ 255) ∧
    ([[0xAA, 0xBB], [0x90, 0x00]] : List ByteString).flatten.length ≤ answered.cfg.respMax ∧
    answered.inbox = ([[0xAA, 0xBB], [0x90, 0x00]] : List ByteString).mapIdx (fun j x =>
      .rx (.frame (mkFrame answered.cfg.crc16Fn answered.edc 0x00
        (infoByte (seqBit answered.nr j) (decide (j + 1 < 2))) x))) := by decide

/-- Four corrupted replies, no two alike: two with a wrong checksum, two with a LEN that disagrees with the length. -/
def corrupted : List ByteString :=
  [[0x00, 0x00, 0x02, 0x90, 0x00, 0x93], [0x00, 0x00, 0x03, 0x90, 0x00, 0x92], [0x00, 0x90, 0x00, 0x6F],
    [0x00, 0x90, 0x00, 0x20, 0x6E]]

/-- An exchange that meets them. -/
def corrupting : State := { awaiting with inbox := corrupted.map (fun f => .rx (.frame f)) }

theorem test_witness_CorruptChannelExhaustsTheRetryBound :
    corrupting.fault = .none ∧ inExchange corrupting.st = true ∧ corrupting.rxPending = true ∧ corrupting.retry = 0 ∧
    corrupting.cfg.Legal ∧ corrupting.cfg.autoResync = false ∧ corrupted.length = corrupting.cfg.retryMax + 1 ∧
    (∀ f ∈ corrupted, decodeFrame corrupting.cfg.crc16Fn corrupting.edc f = .checksumEdc ∨
      decodeFrame corrupting.cfg.crc16Fn corrupting.edc f = .checksumLength) ∧
    decodeFrame .standard .lrc [0x00, 0x00, 0x02, 0x90, 0x00, 0x93] = .checksumEdc ∧
    decodeFrame .standard .lrc [0x00, 0x00, 0x03, 0x90, 0x00, 0x92] = .checksumLength ∧
    corrupting.inbox = corrupted.map (fun f => .rx (.frame f)) := by decide

/-- A timeout, a new EXCHANGE, the late answer to the first one. -/
def late : State := { awaiting with
  inbox := [.rx .timeout, .cmd 0x00000003 [7, 8], .rx (.frame [0x00, 0x00, 0x02, 0x90, 0x00, 0x92])] }

theorem test_witness_LateReplyAnswersTheNextExchange :
    late.fault = .none ∧ late.st = .awaitResp ∧ late.rxPending = true ∧
    ([7, 8] : ByteString).length ≤ late.cfg.apduMax ∧ ([7, 8] : ByteString).length ≤ late.ifs.toNat ∧
    ([0x90, 0x00] : ByteString).length ≤ 255 ∧ ([0x90, 0x00] : ByteString).length ≤ late.cfg.respMax ∧
    late.inbox = [.rx .timeout, .cmd 0x00000003 [7, 8],
      .rx (.frame (mkFrame late.cfg.crc16Fn late.edc 0x00 (infoByte late.nr false) [0x90, 0x00]))] := by decide

end Sys2Proof.Tests
end

section
/-! The step as the run of one decoded instruction (`00_scope.md` R12, `42_exchange.md` R186, `45_host_commands.md` R280). -/

namespace Sys2Proof.Machine

/-- Of the state, decoding a command event reads only whether the engine is busy (R280). -/
theorem decode_cmd_eq_instr {c : DecodeCtx} {w : CommandWord} {apdu : ByteString} {i : Instr} :
    decode c (.cmd w apdu) = .instr i ↔ decodeCommand (busy c.st) w apdu = some i := by
  simp only [decode]
  cases decodeCommand (busy c.st) w apdu <;> simp

/-- The prologue, run on the state with the event taken, is the state `received` writes out field by field (R186). -/
theorem rxPrologue_taken (s : State) (rest : List Event) : rxPrologue { s with inbox := rest } = received s rest := rfl

/-- Settles O1: the step hands the event to `handleEvent` with the queue shortened, which changes nothing that decoding
reads; a command then runs as it stands and an awaited reply after the prologue. -/
theorem stepRunsTheDecodedInstruction : Obligations.StepRunsTheDecodedInstruction := by
  intro s e rest i hfault hinbox hdecode
  have htaken : decode (decodeCtx { s with inbox := rest }) e = .instr i := hdecode
  rw [step_eq hfault hinbox]
  constructor
  · rintro w apdu rfl
    exact handleEvent_cmd_instr (decode_cmd_eq_instr.mp htaken)
  · rintro r rfl hpending hbusy
    have hawaits : awaitsReply { s with inbox := rest } = true := by simp [awaitsReply, hpending, hbusy]
    rw [handleEvent_rx_instr hawaits htaken, rxPrologue_taken]

end Sys2Proof.Machine
end

section
/-! The session's invariant (`10_state.md` R44), cut along the control state: what the registers hold in every state of a
session, what holds of them while an exchange or a resynchronization goes on, and how each shared procedure ends in a sound
state. The receive prologue takes the pending read away before a rule runs (`42_exchange.md` R186), so the parts leave
`rxPending` out; the lemmas that put `Sound` together ask for it. -/

namespace Sys2Proof.Machine

/-! ### The parts of `Sound` -/

/-- The registers' ranges, which hold in a session whatever its control state (R20, R34, R44). -/
structure InRange (s : State) : Prop where
  cfg_legal : s.cfg.Legal
  ifs_range : 1 ≤ s.ifs.toNat ∧ s.ifs.toNat ≤ 254
  retry_bound : s.retry.toNat ≤ s.cfg.retryMax + 1
  rxBuf_bound : s.rxBuf.length ≤ s.cfg.respMax
  txBuf_bound : s.txBuf.length ≤ s.cfg.apduMax
  wtxMult_pos : 1 ≤ s.wtxMult.toNat
  cause_legal : causeLegal s.lastCause = true
  fragLen_legal : s.fragLen.toNat ≤ 254

/-- An exchange in progress, whether or not its read is pending: within the retry bound, the fragment in flight inside the
APDU and, in AWAIT_ACK and AWAIT_RESP, followed by more bytes or by none (R44). -/
structure Exchanging (s : State) : Prop extends InRange s where
  in_exchange : inExchange s.st = true
  retry_left : s.retry.toNat ≤ s.cfg.retryMax
  fragment_inside : s.txOff.toNat + s.fragLen.toNat ≤ s.txBuf.length
  more_in_awaitAck : s.st = .awaitAck → s.txOff.toNat + s.fragLen.toNat < s.txBuf.length
  none_in_awaitResp : s.st = .awaitResp → s.txOff.toNat + s.fragLen.toNat = s.txBuf.length

/-- A resynchronization in progress, whether or not its read is pending (`44_resync.md` R261, R265). -/
structure Resyncing (s : State) : Prop extends InRange s where
  in_resync : s.st = .resyncing
  retry_left : s.retry.toNat ≤ s.cfg.retryMax
  txBuf_nil : s.txBuf = []
  rxBuf_nil : s.rxBuf = []

theorem busy_of_inExchange {st : St} (h : inExchange st = true) : busy st = true := by
  cases st <;> simp_all [busy, inExchange]

/-- `Sound` put together: the ranges, a read pending exactly while busy, and the part that the control state calls for. -/
theorem InRange.sound {s : State} (h : InRange s) (hp : s.rxPending = busy s.st)
    (hidle : s.st = .idle → s.txBuf = [] ∧ s.rxBuf = [])
    (hresync : s.st = .resyncing → Resyncing s) (hexchange : inExchange s.st = true → Exchanging s) : Sound s where
  cfg_legal := h.cfg_legal
  session _ :=
    { ifs_range := h.ifs_range
      retry_bound := h.retry_bound
      rxBuf_bound := h.rxBuf_bound
      txBuf_bound := h.txBuf_bound
      fragment_inside := fun hx => (hexchange hx).fragment_inside
      more_in_awaitAck := fun hst => (hexchange (by rw [hst]; rfl)).more_in_awaitAck hst
      none_in_awaitResp := fun hst => (hexchange (by rw [hst]; rfl)).none_in_awaitResp hst
      pending_iff_busy := hp
      idle_buffers := hidle }
  closed_quiet hst := by rw [hp, hst]; rfl
  busy_retry hb := by
    by_cases hst : s.st = .resyncing
    · exact (hresync hst).retry_left
    · exact (hexchange (inExchange_of_busy hb hst)).retry_left
  resync_buffers hst := ⟨(hresync hst).txBuf_nil, (hresync hst).rxBuf_nil⟩
  wtxMult_pos := h.wtxMult_pos
  cause_legal _ := h.cause_legal
  fragLen_legal _ := h.fragLen_legal

theorem Sound.inRange {s : State} (h : Sound s) (hc : s.st ≠ .closed) : InRange s :=
  { h.session hc with
    cfg_legal := h.cfg_legal
    wtxMult_pos := h.wtxMult_pos
    cause_legal := h.cause_legal hc
    fragLen_legal := h.fragLen_legal hc }

theorem Sound.exchanging {s : State} (h : Sound s) (hx : inExchange s.st = true) : Exchanging s :=
  have hc : s.st ≠ .closed := by rintro hst; simp [hst, inExchange] at hx
  { h.session hc with
    toInRange := h.inRange hc
    in_exchange := hx
    retry_left := h.busy_retry (busy_of_inExchange hx)
    fragment_inside := (h.session hc).fragment_inside hx }

theorem Sound.resyncing {s : State} (h : Sound s) (hst : s.st = .resyncing) : Resyncing s where
  toInRange := h.inRange (by simp [hst])
  in_resync := hst
  retry_left := h.busy_retry (by rw [hst]; rfl)
  txBuf_nil := (h.resync_buffers hst).1
  rxBuf_nil := (h.resync_buffers hst).2

/-- No read is pending while the engine is not busy. -/
theorem Sound.quiet {s : State} (h : Sound s) (hb : busy s.st = false) : s.rxPending = false := by
  by_cases hst : s.st = .closed
  · exact h.closed_quiet hst
  · rw [(h.session hst).pending_iff_busy, hb]

/-! `Sound` reads neither the ports' queues nor the fault flag. -/

theorem Sound.of_emit {s : State} (h : Sound s) (m : Message) : Sound (emit m s) :=
  { h with session := fun hc => { h.session hc with } }

theorem Sound.raiseFault {s : State} (h : Sound s) (kind : FaultKind) : Sound (raiseFault kind s) :=
  { h with session := fun hc => { h.session hc with } }

theorem Sound.take {s : State} (h : Sound s) (rest : List Event) : Sound { s with inbox := rest } :=
  { h with session := fun hc => { h.session hc with } }

/-! ### The prologue -/

theorem InRange.rxPrologue {s : State} (h : InRange s) : InRange (rxPrologue s) :=
  { h with wtxMult_pos := le_rfl }

theorem Exchanging.rxPrologue {s : State} (h : Exchanging s) : Exchanging (rxPrologue s) :=
  { h with toInRange := h.toInRange.rxPrologue }

theorem Resyncing.rxPrologue {s : State} (h : Resyncing s) : Resyncing (rxPrologue s) :=
  { h with toInRange := h.toInRange.rxPrologue }

/-! ### States that end a command -/

theorem InRange.sound_idle {s : State} (h : InRange s) (hst : s.st = .idle) (hp : s.rxPending = false)
    (htx : s.txBuf = []) (hrx : s.rxBuf = []) : Sound s :=
  h.sound (by rw [hp, hst]; rfl) (fun _ => ⟨htx, hrx⟩) (by simp [hst]) (by simp [hst, inExchange])

theorem InRange.sound_dead {s : State} (h : InRange s) (hst : s.st = .dead) (hp : s.rxPending = false) : Sound s :=
  h.sound (by rw [hp, hst]; rfl) (by simp [hst]) (by simp [hst]) (by simp [hst, inExchange])

theorem InRange.sound_aborted {s : State} (h : InRange s) (code : Status) (detail : Byte) :
    Sound (aborted code detail s) :=
  have hr : InRange (aborted code detail s) := { h with rxBuf_bound := Nat.zero_le _, txBuf_bound := Nat.zero_le _ }
  hr.sound_idle rfl rfl rfl rfl

theorem InRange.sound_complete {s : State} (h : InRange s) (hp : s.rxPending = false) : Sound (complete s) :=
  have hr : InRange (complete s) := { h with rxBuf_bound := Nat.zero_le _, txBuf_bound := Nat.zero_le _ }
  hr.sound_idle rfl hp rfl rfl

/-! ### States that await a reply -/

theorem Exchanging.sound {s : State} (h : Exchanging s) (hp : s.rxPending = true) : Sound s :=
  h.toInRange.sound (by rw [hp, busy_of_inExchange h.in_exchange])
    (fun hst => by simpa [hst, inExchange] using h.in_exchange)
    (fun hst => by simpa [hst, inExchange] using h.in_exchange) (fun _ => h)

theorem Resyncing.sound {s : State} (h : Resyncing s) (hp : s.rxPending = true) : Sound s :=
  h.toInRange.sound (by rw [hp, h.in_resync]; rfl) (by simp [h.in_resync]) (fun _ => h) (by simp [h.in_resync, inExchange])

/-- A retransmission goes on with the exchange it found (R184). -/
theorem Exchanging.sound_resent {s : State} (h : Exchanging s) : Sound (resent s) :=
  have hx : Exchanging (resent s) := { h with toInRange := { h.toInRange with wtxMult_pos := le_rfl } }
  hx.sound rfl

theorem Resyncing.sound_resent {s : State} (h : Resyncing s) : Sound (resent s) :=
  have hx : Resyncing (resent s) := { h with toInRange := { h.toInRange with wtxMult_pos := le_rfl } }
  hx.sound rfl

theorem InRange.sound_resyncStarted {s : State} (h : InRange s) (o : Origin) : Sound (resyncStarted o s) :=
  have hr : InRange (resyncStarted o s) :=
    { h with
      retry_bound := Nat.zero_le _
      rxBuf_bound := Nat.zero_le _
      txBuf_bound := Nat.zero_le _
      wtxMult_pos := le_rfl }
  have hx : Resyncing (resyncStarted o s) :=
    { hr with in_resync := rfl, retry_left := Nat.zero_le _, txBuf_nil := rfl, rxBuf_nil := rfl }
  hx.sound rfl

/-- Sending the fragment cut at `txOff` puts exactly it in flight, and the control state says whether bytes follow it (R182):
`ifs` is at most 254, so the fragment's length fits its register. -/
theorem InRange.sound_sendFragment {s : State} (h : InRange s) (hretry : s.retry.toNat ≤ s.cfg.retryMax)
    (hoff : s.txOff.toNat ≤ s.txBuf.length) : Sound (sendFragment s) := by
  have hifs := h.ifs_range.2
  have hlen : (BitVec.ofNat 8 (nextFragLen s)).toNat = nextFragLen s := by
    rw [BitVec.toNat_ofNat, nextFragLen]
    omega
  have hfrag : (sendFragment s).fragLen.toNat = nextFragLen s := hlen
  have hst : (sendFragment s).st = if moreFollows s then .awaitAck else .awaitResp := rfl
  have hmore : moreFollows s = true ↔ s.txOff.toNat + nextFragLen s < s.txBuf.length := by simp [moreFollows]
  have hinside : s.txOff.toNat + nextFragLen s ≤ s.txBuf.length := by
    rw [nextFragLen]
    omega
  have hr : InRange (sendFragment s) :=
    { h with
      wtxMult_pos := le_rfl
      fragLen_legal := by rw [hfrag, nextFragLen]; omega }
  have hx : Exchanging (sendFragment s) :=
    { hr with
      in_exchange := by rw [hst]; split <;> rfl
      retry_left := hretry
      fragment_inside := by rw [hfrag]; exact hinside
      more_in_awaitAck := by
        rw [hst, hfrag]
        split
        · rename_i hm
          exact fun _ => hmore.mp hm
        · simp
      none_in_awaitResp := by
        rw [hst, hfrag]
        split
        · simp
        · rename_i hm
          exact fun _ => Nat.le_antisymm hinside (Nat.le_of_not_lt fun hlt => hm (hmore.mpr hlt)) }
  exact hx.sound rfl

/-! ### Procedures with several ends -/

/-- Within the bound, counting one more error does not wrap `retry` (R29). -/
theorem toNat_retry_succ {s : State} (hcfg : s.cfg.Legal) (hr : s.retry.toNat ≤ s.cfg.retryMax) :
    (s.retry + 1).toNat = s.retry.toNat + 1 := by
  obtain ⟨hmax, -⟩ := hcfg
  bv_omega

theorem InRange.retry_succ {s : State} (h : InRange s) (hr : s.retry.toNat ≤ s.cfg.retryMax) :
    InRange { s with retry := s.retry + 1 } :=
  { h with retry_bound := (toNat_retry_succ h.cfg_legal hr).le.trans (Nat.succ_le_succ hr) }

theorem Exchanging.sound_recoverable {s : State} (h : Exchanging s) {cause : BitVec 7} (hc : causeLegal cause = true) :
    Sound (recoverable cause s) := by
  have hcounted : InRange { s with retry := s.retry + 1, lastCause := cause } :=
    { h.toInRange.retry_succ h.retry_left with cause_legal := hc }
  rcases recovered_cases (recoverable_spec cause s) with ⟨hb, he⟩ | ⟨-, -, he⟩ | ⟨-, -, he⟩ <;> rw [he]
  · have hx : Exchanging { s with retry := s.retry + 1, lastCause := cause } :=
      { h with toInRange := hcounted, retry_left := (toNat_retry_succ h.cfg_legal h.retry_left).le.trans hb }
    exact hx.sound_resent
  · exact hcounted.sound_aborted _ _
  · have hr : InRange { s with lastCause := cause } := { h.toInRange with cause_legal := hc }
    exact hr.sound_resyncStarted _

theorem Resyncing.sound_attemptFailed {s : State} (h : Resyncing s) : Sound (resyncAttemptFailed s) := by
  have hcounted := h.toInRange.retry_succ h.retry_left
  rcases attemptFailed_cases (resyncAttemptFailed_spec s) with ⟨hb, he⟩ | ⟨-, he⟩ <;> rw [he]
  · have hx : Resyncing { s with retry := s.retry + 1 } :=
      { h with toInRange := hcounted, retry_left := (toNat_retry_succ h.cfg_legal h.retry_left).le.trans hb }
    exact hx.sound_resent
  · refine InRange.sound_dead ?_ rfl rfl
    exact { hcounted with rxBuf_bound := Nat.zero_le _, txBuf_bound := Nat.zero_le _ }

theorem Resyncing.sound_resyncDone {s : State} (h : Resyncing s) (hp : s.rxPending = false) : Sound (resyncDone s) := by
  rw [resyncDone_eq]
  refine InRange.sound_idle ?_ rfl hp h.txBuf_nil h.rxBuf_nil
  exact { h.toInRange with retry_bound := Nat.zero_le _ }

/-- An accepted block leaves the fragment in flight as it is; the response never outgrows its buffer (R201). -/
theorem Exchanging.sound_accept {s : State} (h : Exchanging s) (hp : s.rxPending = false) (m : Bool) (inf : ByteString) :
    Sound (accept m inf s) := by
  rcases accept_cases m inf s with ⟨-, he⟩ | ⟨hfit, -, he⟩ | ⟨hfit, -, he⟩ <;> rw [he]
  · exact h.toInRange.sound_aborted _ _
  · refine Exchanging.sound ?_ rfl
    exact
      { h with
        toInRange := { h.toInRange with rxBuf_bound := by simpa using hfit, wtxMult_pos := le_rfl }
        in_exchange := rfl
        more_in_awaitAck := nofun
        none_in_awaitResp := nofun }
  · refine InRange.sound_complete ?_ hp
    exact { h.toInRange with rxBuf_bound := by simpa using hfit }

/-- A positive acknowledgement goes past the fragment in flight; the offset does not wrap, since more bytes follow it and the
APDU is shorter than 2^32 (R191). -/
theorem Exchanging.sound_ackAdvance {s : State} (h : Exchanging s) (hst : s.st = .awaitAck) : Sound (ackAdvance s) := by
  have hmore := h.more_in_awaitAck hst
  have hbuf := h.txBuf_bound
  obtain ⟨-, -, hmax, -⟩ := h.cfg_legal
  have hoff : (s.txOff + s.fragLen.setWidth 32).toNat = s.txOff.toNat + s.fragLen.toNat := by
    bv_omega
  refine InRange.sound_sendFragment ?_ h.retry_left ?_
  · exact { h.toInRange with }
  · exact hoff.le.trans h.fragment_inside

theorem Exchanging.sound_wtxRequest {s : State} (h : Exchanging s) {m : Byte} (hm : m ≠ 0) : Sound (wtxRequest m s) := by
  refine Exchanging.sound ?_ rfl
  exact { h with toInRange := { h.toInRange with wtxMult_pos := by change 1 ≤ m.toNat; bv_omega } }

theorem Exchanging.sound_ifsRequest {s : State} (h : Exchanging s) {v : Byte} (h0 : v ≠ 0) (h1 : v ≠ 0xFF) :
    Sound (ifsRequest v s) := by
  have hv : 1 ≤ v.toNat ∧ v.toNat ≤ 254 := by bv_omega
  refine Exchanging.sound ?_ rfl
  exact { h with toInRange := { h.toInRange with ifs_range := hv, wtxMult_pos := le_rfl } }

theorem InRange.sound_startExchange {s : State} (h : InRange s) {apdu : ByteString} (hl : apdu.length ≤ s.cfg.apduMax) :
    Sound (startExchange apdu s) := by
  refine InRange.sound_sendFragment ?_ (Nat.zero_le _) (Nat.zero_le _)
  exact
    { h with
      retry_bound := Nat.zero_le _
      rxBuf_bound := Nat.zero_le _
      txBuf_bound := hl
      cause_legal := rfl }

/-- CLOSE leaves nothing to check but the parameters, the multiplier and that no read is pending (R284). -/
theorem Sound.closeSession {s : State} (h : Sound s) (hb : busy s.st = false) : Sound (closeSession s) where
  cfg_legal := h.cfg_legal
  session hc := absurd rfl hc
  closed_quiet _ := h.quiet hb
  busy_retry := nofun
  resync_buffers := nofun
  wtxMult_pos := h.wtxMult_pos
  cause_legal hc := absurd rfl hc
  fragLen_legal hc := absurd rfl hc

/-! ### Every step -/

/-- Every effect of an event keeps `Sound`. -/
theorem Effect.sound {s t : State} {e : Event} (he : Effect s e t) (h : Sound s) : Sound t := by
  cases he with
  | hostViolation => exact h.raiseFault _
  | transportViolation => exact h.raiseFault _
  | turnedAway => exact h.of_emit _
  | opened _ _ _ _ cifs _ _ _ _ hl hu =>
    refine InRange.sound_idle ?_ rfl rfl rfl rfl
    exact
      { cfg_legal := h.cfg_legal
        ifs_range := ⟨hl, hu⟩
        retry_bound := Nat.zero_le _
        rxBuf_bound := Nat.zero_le _
        txBuf_bound := Nat.zero_le _
        wtxMult_pos := le_rfl
        cause_legal := rfl
        fragLen_legal := Nat.zero_le _ }
  | closed _ _ hb => exact h.closeSession hb
  | exchangeStarted _ _ hst hl => exact (h.inRange (by simp [hst])).sound_startExchange hl
  | resyncStarted _ _ hst => exact (h.inRange (by simp [hst])).sound_resyncStarted _
  | cancelled _ _ hb =>
    have hr := h.inRange (by rintro hst; simp [hst, busy] at hb)
    exact InRange.sound_aborted (s := emit .rdCancel s) { hr with } _ _
  | ignored => exact h
  | aborted _ _ _ _ _ hx => exact (h.exchanging hx).toInRange.rxPrologue.sound_aborted _ _
  | recovered _ _ _ _ hx hc => exact (h.exchanging hx).rxPrologue.sound_recoverable hc
  | acknowledged _ _ _ _ hst => exact (h.exchanging (by rw [hst]; rfl)).rxPrologue.sound_ackAdvance hst
  | firstAccepted _ _ m inf _ _ hst =>
    have hx := (h.exchanging (by rw [hst]; rfl)).rxPrologue
    refine Exchanging.sound_accept ?_ rfl m inf
    exact { hx with toInRange := { hx.toInRange with } }
  | nextAccepted _ _ m inf _ _ hst => exact (h.exchanging (by rw [hst]; rfl)).rxPrologue.sound_accept rfl m inf
  | resent _ _ _ hst =>
    exact (h.exchanging (by rcases hst with hst | hst <;> rw [hst] <;> rfl)).rxPrologue.sound_resent
  | waitGranted _ _ _ _ hx hm => exact (h.exchanging hx).rxPrologue.sound_wtxRequest hm
  | ifsAdopted _ _ _ _ hx h0 h1 => exact (h.exchanging hx).rxPrologue.sound_ifsRequest h0 h1
  | cardAborted _ _ _ hx =>
    have hr := (h.exchanging hx).toInRange.rxPrologue
    exact InRange.sound_aborted (s := emit _ (rxPrologue s)) { hr with } _ _
  | resynced _ _ _ hst => exact (h.resyncing hst).rxPrologue.sound_resyncDone rfl
  | attemptFailed _ _ _ hst => exact (h.resyncing hst).rxPrologue.sound_attemptFailed

/-- Settles O44: a step either waits or has one of the effects of an event, each of which keeps `Sound`. -/
theorem everyStepKeepsTheInvariant : Obligations.EveryStepKeepsTheInvariant := by
  intro s t h hstep
  obtain ⟨-, ⟨-, rfl⟩ | ⟨e, rest, -, heffect⟩⟩ := step_effect hstep
  · exact h
  · exact heffect.sound (h.take rest)

/-- Settles O43: the machine starts in CLOSED with no read pending, which binds nothing of a session. -/
theorem resetIsSound : Obligations.ResetIsSound := by
  refine ⟨?_, trivial⟩
  exact
    { cfg_legal := by decide
      session := fun hc => absurd rfl hc
      closed_quiet := fun _ => rfl
      busy_retry := nofun
      resync_buffers := nofun
      wtxMult_pos := le_rfl
      cause_legal := fun hc => absurd rfl hc
      fragLen_legal := fun hc => absurd rfl hc }

end Sys2Proof.Machine
end

section
/-! The configuration of a session: `edc` and `nad` hold from OPEN to CLOSE, `ifs` until the card asks for another
(`10_state.md` R24 to R26, R41). -/

namespace Sys2Proof.Machine

/-- The registers that OPEN configures a session with: `edc`, `nad` and `ifs`. -/
def configuration (s : State) : Edc × Byte × Byte := (s.edc, s.nad, s.ifs)

theorem configuration_eq_iff {s t : State} :
    configuration t = configuration s ↔ t.edc = s.edc ∧ t.nad = s.nad ∧ t.ifs = s.ifs := by
  simp [configuration]

/-! ### The shared procedures leave the configuration as it is -/

theorem configuration_recoverable (cause : BitVec 7) (s : State) :
    configuration (recoverable cause s) = configuration s := by
  rcases recovered_cases (recoverable_spec cause s) with ⟨-, he⟩ | ⟨-, -, he⟩ | ⟨-, -, he⟩ <;> rw [he] <;> rfl

theorem configuration_accept (m : Bool) (inf : ByteString) (s : State) :
    configuration (accept m inf s) = configuration s := by
  rcases accept_cases m inf s with ⟨-, he⟩ | ⟨-, -, he⟩ | ⟨-, -, he⟩ <;> rw [he] <;> rfl

theorem configuration_resyncAttemptFailed (s : State) : configuration (resyncAttemptFailed s) = configuration s := by
  rcases attemptFailed_cases (resyncAttemptFailed_spec s) with ⟨-, he⟩ | ⟨-, he⟩ <;> rw [he] <;> rfl

theorem configuration_resyncDone (s : State) : configuration (resyncDone s) = configuration s := by
  rw [resyncDone_eq]
  rfl

/-! ### Every step -/

/-- The rules that write the configuration are those of OPEN, CLOSE and the IFS request, and the last writes `ifs` alone. -/
theorem Effect.configuration_cases {s t : State} {e : Event} (he : Effect s e t) :
    configuration t = configuration s ∨
    (∃ i, decode (decodeCtx s) e = .instr i ∧ ((∃ a b c, i = .openCmd a b c) ∨ i = .closeCmd)) ∨
    (t.edc = s.edc ∧ t.nad = s.nad ∧ decode (decodeCtx s) e = .instr (.sIfsReq [t.ifs])) := by
  cases he with
  | opened _ _ cedc cnad cifs _ _ _ hd => exact .inr (.inl ⟨_, hd, .inl ⟨cedc, cnad, cifs, rfl⟩⟩)
  | closed _ _ _ hd => exact .inr (.inl ⟨_, hd, .inr rfl⟩)
  | ifsAdopted _ _ _ _ _ _ _ hd => exact .inr (.inr ⟨rfl, rfl, hd⟩)
  | recovered => exact .inl (configuration_recoverable _ _)
  | firstAccepted => exact .inl (configuration_accept _ _ _)
  | nextAccepted => exact .inl (configuration_accept _ _ _)
  | resynced => exact .inl (configuration_resyncDone _)
  | attemptFailed => exact .inl (configuration_resyncAttemptFailed _)
  | hostViolation | transportViolation | turnedAway | exchangeStarted | resyncStarted | cancelled | ignored | aborted
  | acknowledged | resent | waitGranted | cardAborted => exact .inl rfl

/-- Settles O47, by the effects of an event: one that writes none of the three registers meets both clauses at once. -/
theorem sessionConfigurationIsFixed : Obligations.SessionConfigurationIsFixed := by
  intro s t hstep
  obtain ⟨-, ⟨-, rfl⟩ | ⟨e, rest, hinbox, heffect⟩⟩ := step_effect hstep
  · simp
  · rcases heffect.configuration_cases with hsame | ⟨i, hd, hi⟩ | ⟨hedc, hnad, hd⟩
    · obtain ⟨hedc, hnad, hifs⟩ := configuration_eq_iff.mp hsame
      exact ⟨fun hne => absurd hne (by simp [hedc, hnad]), fun hne => absurd hifs hne⟩
    · exact ⟨fun _ => ⟨e, rest, i, hinbox, hd, hi⟩, fun _ => ⟨e, rest, i, hinbox, hd, hi.imp_right .inl⟩⟩
    · exact ⟨fun hne => absurd hne (by simp [hedc, hnad]), fun _ => ⟨e, rest, _, hinbox, hd, .inr (.inr rfl)⟩⟩

end Sys2Proof.Machine
end

section
/-! The read a step asks for: a frame with a nonzero multiplier is followed by a read, and the read is pending, with that
multiplier, exactly after such a frame (`10_state.md` R35, R36, R38). -/

namespace Sys2Proof.Machine

/-- The rule that led from `s` to `t` sent one frame, asked for its reply with the multiplier `m`, and left that read
pending. -/
def AskedForRead (m : Byte) (s t : State) : Prop :=
  m ≠ 0 ∧ t.rxPending = true ∧ t.wtxMult = m ∧ ∃ f, t.outbox = s.outbox ++ [.tx f m]

/-- The rule that led from `s` to `t` asked for no reply and left no read pending; it kept the multiplier or set it to 1. -/
def AskedForNoRead (s t : State) : Prop :=
  t.rxPending = false ∧ (t.wtxMult = 1 ∨ t.wtxMult = s.wtxMult) ∧
    ∃ ms, t.outbox = s.outbox ++ ms ∧ ∀ f m, .tx f m ∈ ms → m = 0

/-- The rule that led from `s` to `t` asked for a reply with the multiplier `m`, or for none. -/
def ReadSettled (m : Byte) (s t : State) : Prop := AskedForRead m s t ∨ AskedForNoRead s t

/-- A read is pending exactly when a message asked for one, and a message that asks for one carries the multiplier left. -/
theorem ReadSettled.messages {m : Byte} {s t : State} (h : ReadSettled m s t) :
    ∃ ms, t.outbox = s.outbox ++ ms ∧ (t.rxPending = true ↔ ∃ f k, .tx f k ∈ ms ∧ k ≠ 0) ∧
      ∀ f k, .tx f k ∈ ms → k ≠ 0 → k = t.wtxMult := by
  rcases h with ⟨hm, hp, hw, f, ho⟩ | ⟨hp, -, ms, ho, hms⟩
  · refine ⟨_, ho, ⟨fun _ => ⟨f, m, by simp, hm⟩, fun _ => hp⟩, fun g k hk _ => ?_⟩
    obtain ⟨-, rfl⟩ : g = f ∧ k = m := by simpa using hk
    exact hw.symm
  · have hnone : ∀ f k, .tx f k ∈ ms → k ≠ 0 → False := fun f k hk hk0 => hk0 (hms f k hk)
    refine ⟨ms, ho, ⟨fun hp' => by simp [hp] at hp', fun ⟨f, k, hk, hk0⟩ => (hnone f k hk hk0).elim⟩, ?_⟩
    exact fun f k hk hk0 => (hnone f k hk hk0).elim

/-- From a multiplier of 1, a rule that asks for its replies with 1 leaves 1. -/
theorem ReadSettled.wtxMult_eq_one {s t : State} (h : ReadSettled 1 s t) (hs : s.wtxMult = 1) : t.wtxMult = 1 := by
  rcases h with ⟨-, -, hw, -⟩ | ⟨-, hw, -⟩
  · exact hw
  · exact hw.elim id fun hw => hw.trans hs

/-- A rule that only emits a result, with no read pending before it, asks for none. -/
theorem readSettled_of_result {s t : State} {code : Status} {detail : Byte} {data : ByteString}
    (hp : t.rxPending = false) (hw : t.wtxMult = 1 ∨ t.wtxMult = s.wtxMult)
    (ho : t.outbox = s.outbox ++ [.result code detail data]) : ReadSettled 1 s t :=
  .inr ⟨hp, hw, _, ho, by simp⟩

/-! ### The shared procedures -/

theorem readSettled_resent (s : State) : ReadSettled 1 s (resent s) := .inl ⟨by decide, rfl, rfl, _, rfl⟩

theorem readSettled_aborted (code : Status) (detail : Byte) (s : State) : ReadSettled 1 s (aborted code detail s) :=
  readSettled_of_result rfl (.inr rfl) rfl

theorem readSettled_resyncStarted (o : Origin) (s : State) : ReadSettled 1 s (resyncStarted o s) :=
  .inl ⟨by decide, rfl, rfl, _, rfl⟩

theorem readSettled_sendFragment (s : State) : ReadSettled 1 s (sendFragment s) := .inl ⟨by decide, rfl, rfl, _, rfl⟩

theorem readSettled_recoverable (cause : BitVec 7) (s : State) : ReadSettled 1 s (recoverable cause s) := by
  rcases recovered_cases (recoverable_spec cause s) with ⟨-, he⟩ | ⟨-, -, he⟩ | ⟨-, -, he⟩ <;> rw [he]
  · exact readSettled_resent _
  · exact readSettled_aborted _ _ _
  · exact readSettled_resyncStarted _ _

theorem readSettled_accept {s : State} (hp : s.rxPending = false) (m : Bool) (inf : ByteString) :
    ReadSettled 1 s (accept m inf s) := by
  rcases accept_cases m inf s with ⟨-, he⟩ | ⟨-, -, he⟩ | ⟨-, -, he⟩ <;> rw [he]
  · exact readSettled_aborted _ _ _
  · exact .inl ⟨by decide, rfl, rfl, _, rfl⟩
  · exact readSettled_of_result hp (.inr rfl) rfl

theorem readSettled_resyncAttemptFailed (s : State) : ReadSettled 1 s (resyncAttemptFailed s) := by
  rcases attemptFailed_cases (resyncAttemptFailed_spec s) with ⟨-, he⟩ | ⟨-, he⟩ <;> rw [he]
  · exact readSettled_resent _
  · exact readSettled_of_result rfl (.inr rfl) rfl

theorem readSettled_resyncDone {s : State} (hp : s.rxPending = false) : ReadSettled 1 s (resyncDone s) := by
  rw [resyncDone_eq]
  refine .inr ⟨hp, .inr rfl, _, rfl, ?_⟩
  cases s.origin <;> simp

/-- A CANCEL withdraws the read: neither of its messages asks for one (R288). -/
theorem readSettled_hostCancel (s : State) : ReadSettled 1 s (hostCancel s) :=
  .inr ⟨rfl, .inr rfl, [.rdCancel, .result .eCancelled 0x00 []], List.append_assoc _ _ _, by simp⟩

/-- The response to an ABORT request is sent with multiplier 0, which asks for no reply (R245). -/
theorem readSettled_cardAbort (s : State) : ReadSettled 1 s (cardAbort s) :=
  .inr ⟨rfl, .inr rfl, [.tx _ 0, .result .eCardAbort 0x00 []], List.append_assoc _ _ _, by simp⟩

/-! ### Every step -/

/-- The state in which the rule of an event starts: a command's as it stands, an `Rx` event's after the prologue (R186,
R280). -/
def ruleStart (e : Event) (s : State) : State :=
  match e with
  | .cmd _ _ => s
  | .rx _ => rxPrologue s

@[simp] theorem ruleStart_outbox (e : Event) (s : State) : (ruleStart e s).outbox = s.outbox := by
  cases e <;> rfl

/-- An event either is a contract violation, or its rule settles the read: a granted wait asks for a reply with the
multiplier of the request, and every other rule with 1 or not at all. -/
theorem Effect.read_cases {s t : State} {e : Event} (he : Effect s e t)
    (hquiet : busy s.st = false → s.rxPending = false) :
    (t.fault ≠ .none ∧ ∀ r, e = .rx r → awaitsReply s = false) ∨
    ReadSettled 1 (ruleStart e s) t ∨
    ∃ m, decode (decodeCtx s) e = .instr (.sWtxReq [m]) ∧ AskedForRead m (ruleStart e s) t := by
  cases he with
  | hostViolation w apdu he => exact .inl ⟨by simp, by simp [he]⟩
  | transportViolation r he ha => exact .inl ⟨by simp, fun _ _ => ha⟩
  | waitGranted r m he _ _ hm hd =>
    subst he
    exact .inr (.inr ⟨m, hd, hm, rfl, rfl, _, rfl⟩)
  | turnedAway w apdu code he hb =>
    subst he
    exact .inr (.inl (readSettled_of_result (hquiet hb) (.inr rfl) rfl))
  | opened w apdu _ _ _ he =>
    subst he
    exact .inr (.inl (readSettled_of_result rfl (.inl rfl) rfl))
  | closed apdu he hb =>
    subst he
    exact .inr (.inl (readSettled_of_result (hquiet hb) (.inr rfl) rfl))
  | exchangeStarted apdu he =>
    subst he
    exact .inr (.inl (readSettled_sendFragment _))
  | resyncStarted apdu he =>
    subst he
    exact .inr (.inl (readSettled_resyncStarted _ _))
  | cancelled apdu he =>
    subst he
    exact .inr (.inl (readSettled_hostCancel _))
  | ignored apdu he hb =>
    subst he
    exact .inr (.inl (.inr ⟨hquiet hb, .inr rfl, [], by simp, by simp⟩))
  | aborted r code detail he =>
    subst he
    exact .inr (.inl (readSettled_aborted _ _ _))
  | recovered r cause he =>
    subst he
    exact .inr (.inl (readSettled_recoverable _ _))
  | acknowledged r n he =>
    subst he
    exact .inr (.inl (readSettled_sendFragment _))
  | firstAccepted r b m inf he =>
    subst he
    exact .inr (.inl (readSettled_accept rfl m inf))
  | nextAccepted r b m inf he =>
    subst he
    exact .inr (.inl (readSettled_accept rfl m inf))
  | resent r he =>
    subst he
    exact .inr (.inl (readSettled_resent _))
  | ifsAdopted r v he =>
    subst he
    exact .inr (.inl (.inl ⟨by decide, rfl, rfl, _, rfl⟩))
  | cardAborted r he =>
    subst he
    exact .inr (.inl (readSettled_cardAbort _))
  | resynced r he =>
    subst he
    exact .inr (.inl (readSettled_resyncDone rfl))
  | attemptFailed r he =>
    subst he
    exact .inr (.inl (readSettled_resyncAttemptFailed _))

/-- Settles O53: a step that is no contract violation settles the read, and `ReadSettled` ties the pending read to the
messages. -/
theorem aReadIsPendingExactlyWhenRequested : Obligations.AReadIsPendingExactlyWhenRequested := by
  intro s t e rest hsound hinbox hstep hfault
  have heffect := handleEvent_effect (step_eq (step_cases hstep).1 hinbox ▸ hstep)
  have hsettled : ∃ m, ReadSettled m (ruleStart e { s with inbox := rest }) t := by
    rcases heffect.read_cases hsound.quiet with ⟨hviolation, -⟩ | h | ⟨m, -, h⟩
    · exact absurd hfault hviolation
    · exact ⟨1, h⟩
    · exact ⟨m, .inl h⟩
  obtain ⟨m, hsettled⟩ := hsettled
  obtain ⟨ms, ho, hp, -⟩ := hsettled.messages
  exact ⟨ms, by rw [ho, ruleStart_outbox], hp⟩

/-- Settles O52: of the rules that an awaited `Rx` event runs, only that of a WTX request with a nonzero byte leaves a
multiplier other than 1, and each asks for its reply with the multiplier it leaves. -/
theorem wtxAppliesToTheNextReadOnly : Obligations.WtxAppliesToTheNextReadOnly := by
  intro s t r rest hinbox hpending hbusy hstep
  have hfault := (step_cases hstep).1
  have hawaits : awaitsReply { s with inbox := rest } = true := by simp [awaitsReply, hpending, hbusy]
  have heffect := handleEvent_effect (step_eq hfault hinbox ▸ hstep)
  refine ⟨fun m hm hd => ?_, ?_⟩
  · have hrun := (stepRunsTheDecodedInstruction s _ rest _ hfault hinbox hd).2 r rfl hpending hbusy
    have hgrant : exec (.sWtxReq [m]) (received s rest) = .next (wtxRequest m (received s rest)) := by
      simp [exec, execSWtxReq, wtxParam_eq_some.mpr ⟨rfl, hm⟩]
    rw [hrun, hgrant] at hstep
    cases hstep
    rfl
  · rcases heffect.read_cases (fun hb => absurd hbusy (by simp [hb])) with ⟨-, hunawaited⟩ | h | ⟨m, hd, h⟩
    · exact absurd hawaits (by simp [hunawaited r rfl])
    · obtain ⟨ms, ho, -, hmult⟩ := h.messages
      exact ⟨fun _ => h.wtxMult_eq_one rfl, ms, ho, hmult⟩
    · obtain ⟨ms, ho, -, hmult⟩ := ReadSettled.messages (.inl h)
      exact ⟨fun hnot => absurd hd (hnot m h.1), ms, ho, hmult⟩

end Sys2Proof.Machine
end

section
/-! A response that arrives in I-blocks (`20_memory.md` R63, R67, `42_exchange.md` R197, R199 to R202). AWAIT_RESP and RECEIVING
accept an in-sequence block alike, except that the first block of a response also acknowledges the engine's last I-block; so
one step lemma serves both, and the run is an induction over the blocks that are still to come. -/

namespace Sys2Proof.Machine

/-! ### Sequence bits and frames -/

@[simp] theorem seqBit_zero (b : Bool) : seqBit b 0 = b := by simp [seqBit]

/-- The blocks after the first carry the bits of a message that starts with the toggled bit (R27, R28). -/
theorem seqBit_succ (b : Bool) (j : Nat) : seqBit b (j + 1) = seqBit (!b) j := by
  rcases Nat.mod_two_eq_zero_or_one j with h | h <;> simp [seqBit, h, Nat.add_mod]

/-- `infoByte` is the PCB that the decoder reads back as an I-block (R98, R155). -/
theorem classify_infoByte (b m : Bool) (inf : ByteString) : classify (infoByte b m) inf = .info b m inf := by
  cases b <;> cases m <;> rfl

/-- The PCB that acknowledges the block with bit `b`, as `Accepted` writes it. -/
theorem ackByte_not (b : Bool) : ackByte (!b) = if b then 0x80 else 0x90 := by
  cases b <;> rfl

/-- A frame that decodes Ok runs the row that the state selects for its block (R111). -/
theorem decode_frame_eq_instr {c : DecodeCtx} {f : ByteString} {b : Block} {i : Instr}
    (hf : decodeFrame c.crc16Fn c.edc f = .ok b) (hs : selectRow c b = some i) :
    decode c (.rx (.frame f)) = .instr i := by
  simp [decode, hf, hs]

/-! ### One block -/

/-- The engine awaits a block of the response: the first one in AWAIT_RESP, a further one in RECEIVING. -/
structure AwaitsResponse (s : State) : Prop where
  no_fault : s.fault = .none
  awaits_block : s.st = .awaitResp ∨ s.st = .receiving
  read_pending : s.rxPending = true

/-- `ns` once the next block of the response is accepted: the first block of a response acknowledges the engine's last I-block
(R197), a further one acknowledges nothing (R199). -/
def nsOnResponse (s : State) : Bool := if s.st = .awaitResp then !s.ns else s.ns

/-- The event of an I-block in the session of `s`. -/
def blockEvent (s : State) (nad : Byte) (b m : Bool) (inf : ByteString) : Event :=
  .rx (.frame (mkFrame s.cfg.crc16Fn s.edc nad (infoByte b m) inf))

/-- An in-sequence block is accepted, in either state that awaits one (R197, R199). -/
theorem AwaitsResponse.step_inSeq {s : State} (h : AwaitsResponse s) {nad : Byte} {m : Bool} {inf : ByteString}
    {rest : List Event} (hinf : inf.length ≤ 255) (hinbox : s.inbox = blockEvent s nad s.nr m inf :: rest) :
    step s = .next (accept m inf { received s rest with ns := nsOnResponse s }) := by
  obtain ⟨hfault, hst, hpending⟩ := h
  have hframe : decodeFrame s.cfg.crc16Fn s.edc (mkFrame s.cfg.crc16Fn s.edc nad (infoByte s.nr m) inf) =
      .ok (.info s.nr m inf) := by
    rw [decodeFrame_mkFrame _ _ _ _ _ hinf, classify_infoByte]
  have hruns : ∀ i, selectRow (decodeCtx s) (.info s.nr m inf) = some i → busy s.st = true →
      step s = exec i (received s rest) := fun i hrow hbusy =>
    (stepRunsTheDecodedInstruction s _ rest i hfault hinbox (decode_frame_eq_instr hframe hrow)).2 _ rfl hpending hbusy
  rcases hst with hst | hst
  · rw [hruns (.iAwaitRespInSeq s.nr m inf) (by simp [selectRow, decodeCtx, hst, awaitRespRow]) (by simp [hst, busy])]
    simp [exec, execIAwaitRespInSeq, nsOnResponse, hst, received]
  · rw [hruns (.iReceivingInSeq s.nr m inf) (by simp [selectRow, decodeCtx, hst, receivingRow]) (by simp [hst, busy])]
    simp [exec, execIReceivingInSeq, nsOnResponse, hst, received]

/-! ### All blocks -/

/-- The events of the blocks `infs` of a response, the first with the bit `nr` expects, all but the last chained. -/
def responseEvents (s : State) (nad : Byte) (infs : List ByteString) : List Event :=
  infs.mapIdx fun j inf => blockEvent s nad (seqBit s.nr j) (decide (j + 1 < infs.length)) inf

/-- The acknowledgement of a block, which asks for the block with bit `n` (R201). -/
def ackMessage (s : State) (n : Bool) : Message := .tx (mkFrame s.cfg.crc16Fn s.edc s.nad (ackByte n) []) 1

/-- The acknowledgements of the next `k` blocks. -/
def ackMessages (s : State) (k : Nat) : List Message := (List.range k).map fun j => ackMessage s (seqBit s.nr (j + 1))

theorem responseEvents_singleton (s : State) (nad : Byte) (x : ByteString) :
    responseEvents s nad [x] = [blockEvent s nad s.nr false x] := by
  simp [responseEvents]

/-- After a chained block, the rest is a response that starts with the toggled bit. -/
theorem responseEvents_cons_cons (s : State) (nad : Byte) (x y : ByteString) (ys : List ByteString) :
    responseEvents s nad (x :: y :: ys) =
      blockEvent s nad s.nr true x :: responseEvents { s with nr := !s.nr } nad (y :: ys) := by
  simp [responseEvents, List.mapIdx_cons, seqBit_succ, blockEvent]

theorem ackMessages_succ (s : State) (k : Nat) :
    ackMessages s (k + 1) = ackMessage s (!s.nr) :: ackMessages { s with nr := !s.nr } k := by
  simp [ackMessages, List.range_succ_eq_map, seqBit_succ, ackMessage]

/-- The engine once the chained block `inf` is accepted and acknowledged (R201). -/
def chainedAccepted (inf : ByteString) (rest : List Event) (s : State) : State :=
  { s with
    ns := nsOnResponse s
    nr := !s.nr
    rxBuf := s.rxBuf ++ inf
    lastTx := mkFrame s.cfg.crc16Fn s.edc s.nad (ackByte (!s.nr)) []
    rxPending := true
    wtxMult := 1
    st := .receiving
    inbox := rest
    outbox := s.outbox ++ [ackMessage s (!s.nr)] }

/-- A chained block that fits is appended and acknowledged with the next expected bit (R201). -/
theorem AwaitsResponse.step_chained {s : State} (h : AwaitsResponse s) {nad : Byte} {inf : ByteString}
    {rest : List Event} (hinf : inf.length ≤ 255) (hfit : s.rxBuf.length + inf.length ≤ s.cfg.respMax)
    (hinbox : s.inbox = blockEvent s nad s.nr true inf :: rest) :
    step s = .next (chainedAccepted inf rest s) := by
  obtain ⟨-, hchained, -⟩ := accept_spec true inf { received s rest with ns := nsOnResponse s }
  rw [h.step_inSeq hinf hinbox, hchained hfit rfl]
  simp only [chainedAccepted, ackMessage, ackByte_not]
  rfl

/-- The engine once the last block `inf` is accepted: the result carries all that has been accumulated (R202). -/
def lastAccepted (inf : ByteString) (rest : List Event) (s : State) : State :=
  complete { received s rest with ns := nsOnResponse s, nr := !s.nr, rxBuf := s.rxBuf ++ inf }

/-- A last block that fits is appended and completes the exchange (R201, R202). -/
theorem AwaitsResponse.step_last {s : State} (h : AwaitsResponse s) {nad : Byte} {inf : ByteString}
    {rest : List Event} (hinf : inf.length ≤ 255) (hfit : s.rxBuf.length + inf.length ≤ s.cfg.respMax)
    (hinbox : s.inbox = blockEvent s nad s.nr false inf :: rest) :
    step s = .next (lastAccepted inf rest s) := by
  obtain ⟨-, -, hlast⟩ := accept_spec false inf { received s rest with ns := nsOnResponse s }
  rw [h.step_inSeq hinf hinbox, hlast hfit rfl]
  rfl

theorem chainedAccepted_awaitsResponse {s : State} (hfault : s.fault = .none) (inf : ByteString) (rest : List Event) :
    AwaitsResponse (chainedAccepted inf rest s) :=
  ⟨hfault, .inr rfl, rfl⟩

/-- The outcome of a run over the blocks `infs`, which extend what the engine has accumulated so far. -/
structure ResponseCompleted (infs : List ByteString) (s t : State) : Prop where
  idle : t.st = .idle
  ns_eq : t.ns = nsOnResponse s
  nr_eq : t.nr = seqBit s.nr infs.length
  outbox_eq : t.outbox = s.outbox ++ ackMessages s (infs.length - 1) ++ [.result .ok 0x00 (s.rxBuf ++ infs.flatten)]

/-- Accepting a response's only remaining block completes it. -/
theorem responseCompleted_lastAccepted (x : ByteString) (rest : List Event) (s : State) :
    ResponseCompleted [x] s (lastAccepted x rest s) where
  idle := rfl
  ns_eq := rfl
  nr_eq := (seqBit_zero (!s.nr)).symm.trans (seqBit_succ s.nr 0).symm
  outbox_eq := by simp [lastAccepted, ackMessages, received]

/-- Completing after a chained block completes the response that started with it. -/
theorem ResponseCompleted.cons {x y : ByteString} {ys : List ByteString} {rest : List Event} {s t : State}
    (h : ResponseCompleted (y :: ys) (chainedAccepted x rest s) t) : ResponseCompleted (x :: y :: ys) s t where
  idle := h.idle
  ns_eq := h.ns_eq
  nr_eq := h.nr_eq.trans (seqBit_succ s.nr _).symm
  outbox_eq := by
    have hacks : ackMessages s ((x :: y :: ys).length - 1) =
        ackMessage s (!s.nr) :: ackMessages (chainedAccepted x rest s) ((y :: ys).length - 1) := ackMessages_succ s _
    rw [h.outbox_eq, hacks]
    simp [chainedAccepted]

/-- The blocks still to come bring a response that is under way to its end; `rxBuf` need not be empty. -/
theorem AwaitsResponse.runsTo_completed {nad : Byte} {infs : List ByteString} (hne : infs ≠ []) {s : State}
    (h : AwaitsResponse s) (hinf : ∀ x ∈ infs, x.length ≤ 255)
    (hfit : s.rxBuf.length + infs.flatten.length ≤ s.cfg.respMax) (hinbox : s.inbox = responseEvents s nad infs) :
    ∃ t, RunsTo infs.length s t ∧ ResponseCompleted infs s t := by
  induction infs generalizing s with
  | nil => exact absurd rfl hne
  | cons x xs ih =>
    have hx : x.length ≤ 255 := hinf x (by simp)
    rw [List.flatten_cons, List.length_append] at hfit
    cases xs with
    | nil =>
      rw [responseEvents_singleton] at hinbox
      exact ⟨_, runsTo_succ (h.step_last hx (by omega) hinbox) (runsTo_zero _), responseCompleted_lastAccepted x [] s⟩
    | cons y ys =>
      rw [responseEvents_cons_cons] at hinbox
      have hstep := h.step_chained hx (by omega) hinbox
      have hrest : (s.rxBuf ++ x).length + (y :: ys).flatten.length ≤ s.cfg.respMax := by
        rw [List.length_append]
        omega
      obtain ⟨t, hrun, hdone⟩ := ih (List.cons_ne_nil y ys) (chainedAccepted_awaitsResponse h.no_fault x _)
        (fun z hz => hinf z (List.mem_cons_of_mem x hz)) hrest
        (rfl : (chainedAccepted x (responseEvents { s with nr := !s.nr } nad (y :: ys)) s).inbox = _)
      exact ⟨t, runsTo_succ hstep hrun, hdone.cons⟩

/-- Settles O58: the run from AWAIT_RESP with nothing accumulated yet, whose first block toggles `ns`. -/
theorem responseIsTheConcatenation : Obligations.ResponseIsTheConcatenation := by
  intro s infs nad hfault hst hpending hbuf hne hinf hfit hinbox
  obtain ⟨t, hrun, hdone⟩ := AwaitsResponse.runsTo_completed (nad := nad) hne ⟨hfault, .inl hst, hpending⟩ hinf
    (by simpa [hbuf] using hfit) hinbox
  refine ⟨t, hrun, hdone.idle, ?_, hdone.nr_eq, ?_⟩
  · rw [hdone.ns_eq, nsOnResponse, if_pos hst]
  · rw [hdone.outbox_eq, hbuf, List.nil_append]
    rfl

end Sys2Proof.Machine
end

section
/-! The decoder and the encoder agree (`30_encoding.md` R90, R97 to R100, R107, R111, R112, `41_codec.md` R161). A frame is
read in two parts, its block and then the row that the state selects for the block; the lemmas say both ways what
`selectRow` and `decodeCommand` answer, and the codec's own lemmas join them to the bytes. -/

namespace Sys2Proof.Machine

/-- What decoding answers in the context `c`: a well-formed instruction of the row that `c` selects. -/
def InRow (c : DecodeCtx) (i : Instr) : Prop := i.wellFormed = true ∧ rowSelected c i = true

/-- The condition of a row that is read alike in AWAIT_ACK, AWAIT_RESP and RECEIVING (R112). -/
theorem busy_and_ne_resyncing (st : St) : (busy st && st != .resyncing) = inExchange st := by
  cases st <;> rfl

/-! ### The row of a block, by the control state -/

section

variable {c : DecodeCtx} {b : Block}

theorem selectRow_awaitAck (h : c.st = .awaitAck) : selectRow c b = some (awaitAckRow c.ns b) := by
  simp [selectRow, h]

theorem selectRow_awaitResp (h : c.st = .awaitResp) : selectRow c b = some (awaitRespRow c.nr b) := by
  simp [selectRow, h]

theorem selectRow_receiving (h : c.st = .receiving) : selectRow c b = some (receivingRow c.nr b) := by
  simp [selectRow, h]

theorem selectRow_resyncing (h : c.st = .resyncing) : selectRow c b = some (resyncingRow b) := by
  simp [selectRow, h]

theorem inExchange_cases {st : St} (h : inExchange st = true) : st = .awaitAck ∨ st = .awaitResp ∨ st = .receiving := by
  cases st <;> simp_all [inExchange]

/-- While an exchange goes on, the row of an S-block does not depend on the control state (R240). -/
theorem selectRow_supervisory (h : inExchange c.st = true) (resp : Bool) (type : BitVec 5) (sinf : ByteString) :
    selectRow c (.supervisory resp type sinf) = some (supervisoryRow resp type sinf) := by
  rcases inExchange_cases h with hst | hst | hst
  · exact selectRow_awaitAck hst
  · exact selectRow_awaitResp hst
  · exact selectRow_receiving hst

/-- While an exchange goes on, an R-block with a nonzero code is an error whatever its N(R) and the control state (R192). -/
theorem selectRow_error (h : inExchange c.st = true) (n : Bool) {err : BitVec 4} (he : err ≠ 0) :
    selectRow c (.ready n err) = some (.rError n err) := by
  rcases inExchange_cases h with hst | hst | hst
  · rw [selectRow_awaitAck hst, awaitAckRow, if_pos he]
  · rw [selectRow_awaitResp hst, awaitRespRow, if_pos he]
  · rw [selectRow_receiving hst, receivingRow, if_pos he]

end

/-! ### What is decoded lies in its row -/

/-- The row of an S-block is by its type; a type that is none of 0..3 is at least 4 (R100). -/
theorem inRow_supervisoryRow {c : DecodeCtx} (hx : inExchange c.st = true) {sinf : ByteString} (hinf : infFits sinf = true)
    (resp : Bool) (type : BitVec 5) : InRow c (supervisoryRow resp type sinf) := by
  have hsel := (busy_and_ne_resyncing c.st).trans hx
  by_cases hother : 4 ≤ type.toNat
  · have hrow : supervisoryRow resp type sinf = .sOther resp type sinf := by
      rw [supervisoryRow, if_neg (by bv_omega), if_neg (by bv_omega), if_neg (by bv_omega), if_neg (by bv_omega)]
    rw [hrow]
    exact ⟨by simp [Instr.wellFormed, hother, hinf], hsel⟩
  · have htype : type = 0 ∨ type = 1 ∨ type = 2 ∨ type = 3 := by bv_omega
    rcases htype with rfl | rfl | rfl | rfl <;> cases resp <;> exact ⟨hinf, hsel⟩

theorem inRow_rError {c : DecodeCtx} (hx : inExchange c.st = true) (n : Bool) {err : BitVec 4} (he : err ≠ 0) :
    InRow c (.rError n err) :=
  ⟨by simpa [Instr.wellFormed] using he, (busy_and_ne_resyncing c.st).trans hx⟩

theorem inRow_awaitAckRow {c : DecodeCtx} (hst : c.st = .awaitAck) {b : Block} (hb : b.wellFormed = true) :
    InRow c (awaitAckRow c.ns b) := by
  have hx : inExchange c.st = true := by rw [hst]; rfl
  cases b with
  | info s m inf => exact ⟨hb, by simp [awaitAckRow, rowSelected, hst]⟩
  | ready n err =>
    simp only [awaitAckRow]
    split_ifs with he hn
    · exact inRow_rError hx n he
    · exact ⟨rfl, by simp [rowSelected, hst, hn]⟩
    · exact ⟨rfl, by simpa [rowSelected, hst] using hn⟩
  | supervisory resp type sinf => exact inRow_supervisoryRow hx hb resp type

theorem inRow_awaitRespRow {c : DecodeCtx} (hst : c.st = .awaitResp) {b : Block} (hb : b.wellFormed = true) :
    InRow c (awaitRespRow c.nr b) := by
  have hx : inExchange c.st = true := by rw [hst]; rfl
  cases b with
  | info s m inf =>
    simp only [awaitRespRow]
    split_ifs with hs
    · exact ⟨hb, by simp [rowSelected, hst, hs]⟩
    · exact ⟨hb, by simp [rowSelected, hst, hs]⟩
  | ready n err =>
    simp only [awaitRespRow]
    split_ifs with he
    · exact inRow_rError hx n he
    · exact ⟨rfl, by simp [rowSelected, hst]⟩
  | supervisory resp type sinf => exact inRow_supervisoryRow hx hb resp type

theorem inRow_receivingRow {c : DecodeCtx} (hst : c.st = .receiving) {b : Block} (hb : b.wellFormed = true) :
    InRow c (receivingRow c.nr b) := by
  have hx : inExchange c.st = true := by rw [hst]; rfl
  cases b with
  | info s m inf =>
    simp only [receivingRow]
    split_ifs with hs
    · exact ⟨hb, by simp [rowSelected, hst, hs]⟩
    · exact ⟨hb, by simp [rowSelected, hst, hs]⟩
  | ready n err =>
    simp only [receivingRow]
    split_ifs with he
    · exact inRow_rError hx n he
    · exact ⟨rfl, by simp [rowSelected, hst]⟩
  | supervisory resp type sinf => exact inRow_supervisoryRow hx hb resp type

theorem inRow_resyncingRow {c : DecodeCtx} (hst : c.st = .resyncing) {b : Block} (hb : b.wellFormed = true) :
    InRow c (resyncingRow b) := by
  simp only [resyncingRow]
  split_ifs with hresp
  · exact ⟨rfl, by simp [rowSelected, hst]⟩
  · exact ⟨Bool.and_eq_true_iff.mpr ⟨hb, bne_iff_ne.mpr hresp⟩, by simp [rowSelected, hst]⟩

/-- The row that a context selects for a well-formed block (R111). -/
theorem inRow_of_selectRow {c : DecodeCtx} {b : Block} {i : Instr} (hb : b.wellFormed = true)
    (h : selectRow c b = some i) : InRow c i := by
  cases hst : c.st with
  | awaitAck =>
    cases (selectRow_awaitAck hst).symm.trans h
    exact inRow_awaitAckRow hst hb
  | awaitResp =>
    cases (selectRow_awaitResp hst).symm.trans h
    exact inRow_awaitRespRow hst hb
  | receiving =>
    cases (selectRow_receiving hst).symm.trans h
    exact inRow_receivingRow hst hb
  | resyncing =>
    cases (selectRow_resyncing hst).symm.trans h
    exact inRow_resyncingRow hst hb
  | closed | idle | dead => simp [selectRow, hst] at h

/-- The row that a context selects for a command word; only CANCEL's two rows ask anything of the state (R280). -/
theorem inRow_of_decodeCommand {c : DecodeCtx} {w : CommandWord} {apdu : ByteString} {i : Instr}
    (h : decodeCommand (busy c.st) w apdu = some i) : InRow c i := by
  rcases decodeCommand_cases h with ⟨_, _, _, rfl, -⟩ | ⟨rfl, -⟩ | ⟨rfl, -⟩ | ⟨rfl, -, hbusy⟩ | ⟨rfl, -, hbusy⟩ | ⟨rfl, -⟩
  · exact ⟨rfl, rfl⟩
  · exact ⟨rfl, rfl⟩
  · exact ⟨rfl, rfl⟩
  · exact ⟨rfl, hbusy⟩
  · exact ⟨rfl, by simp [rowSelected, hbusy]⟩
  · exact ⟨rfl, rfl⟩

/-- Settles O10: a command event lies in its row by its word, and a frame by the block it decodes to, which is well-formed
because LEN is one byte. -/
theorem decodedInstructionIsWellFormedAndSelected : Obligations.DecodedInstructionIsWellFormedAndSelected := by
  intro c e i h
  cases e with
  | cmd w apdu => exact inRow_of_decodeCommand (decode_cmd_eq_instr.mp h)
  | rx r =>
    obtain ⟨f, b, rfl, hframe, hrow⟩ := decode_rx_instr h
    exact inRow_of_selectRow (decodeFrame_wellFormed hframe) hrow

/-! ### What is encoded is decoded back -/

/-- A well-formed frame row stands for a block that a frame can carry. -/
theorem rowBlock_wellFormed {i : Instr} {b : Block} (hi : i.wellFormed = true) (hb : rowBlock i = some b) :
    b.wellFormed = true := by
  cases i with
  | iAwaitAck | iAwaitRespInSeq | iAwaitRespOutOfSeq | iReceivingInSeq | iReceivingDuplicate => cases hb; exact hi
  | sWtxReq | sIfsReq | sAbortReq | sResynchReq | sResynchResp | sIfsResp | sAbortResp | sWtxResp => cases hb; exact hi
  | rError | rAwaitAckAck | rAwaitAckNoAdvance | rAwaitResp | rReceiving | sResynchRespResyncing => cases hb; rfl
  | sOther => cases hb; exact (Bool.and_eq_true_iff.mp hi).2
  | anyResyncing => cases hb; exact (Bool.and_eq_true_iff.mp hi).1
  | openCmd | closeCmd | exchangeCmd | cancelBusy | cancelNotBusy | resyncCmd => cases hb

/-- A context that selects the row of a frame instruction selects that instruction for its block (R111, R112). -/
theorem selectRow_rowBlock {c : DecodeCtx} {i : Instr} {b : Block} (h : InRow c i) (hb : rowBlock i = some b) :
    selectRow c b = some i := by
  obtain ⟨hi, hsel⟩ := h
  cases i with
  | iAwaitAck s m inf =>
    cases hb
    rw [selectRow_awaitAck (by simpa [rowSelected] using hsel)]
    rfl
  | iAwaitRespInSeq s m inf =>
    cases hb
    obtain ⟨hst, hs⟩ : c.st = .awaitResp ∧ s = c.nr := by simpa [rowSelected] using hsel
    rw [selectRow_awaitResp hst, awaitRespRow, if_pos hs]
  | iAwaitRespOutOfSeq s m inf =>
    cases hb
    obtain ⟨hst, hs⟩ : c.st = .awaitResp ∧ s ≠ c.nr := by simpa [rowSelected] using hsel
    rw [selectRow_awaitResp hst, awaitRespRow, if_neg hs]
  | iReceivingInSeq s m inf =>
    cases hb
    obtain ⟨hst, hs⟩ : c.st = .receiving ∧ s = c.nr := by simpa [rowSelected] using hsel
    rw [selectRow_receiving hst, receivingRow, if_pos hs]
  | iReceivingDuplicate s m inf =>
    cases hb
    obtain ⟨hst, hs⟩ : c.st = .receiving ∧ s ≠ c.nr := by simpa [rowSelected] using hsel
    rw [selectRow_receiving hst, receivingRow, if_neg hs]
  | rError n err =>
    cases hb
    exact selectRow_error ((busy_and_ne_resyncing c.st).symm.trans hsel) n (by simpa [Instr.wellFormed] using hi)
  | rAwaitAckAck n =>
    cases hb
    obtain ⟨hst, hn⟩ : c.st = .awaitAck ∧ n = !c.ns := by simpa [rowSelected] using hsel
    rw [selectRow_awaitAck hst]
    simp [awaitAckRow, hn]
  | rAwaitAckNoAdvance n =>
    cases hb
    obtain ⟨hst, hn⟩ : c.st = .awaitAck ∧ n = c.ns := by simpa [rowSelected] using hsel
    rw [selectRow_awaitAck hst]
    simp [awaitAckRow, hn]
  | rAwaitResp n =>
    cases hb
    rw [selectRow_awaitResp (by simpa [rowSelected] using hsel)]
    rfl
  | rReceiving n =>
    cases hb
    rw [selectRow_receiving (by simpa [rowSelected] using hsel)]
    rfl
  | sResynchRespResyncing =>
    cases hb
    rw [selectRow_resyncing (by simpa [rowSelected] using hsel)]
    rfl
  | sWtxReq | sIfsReq | sAbortReq | sResynchReq | sResynchResp | sIfsResp | sAbortResp | sWtxResp =>
    cases hb
    rw [selectRow_supervisory ((busy_and_ne_resyncing c.st).symm.trans hsel)]
    rfl
  | sOther resp type sinf =>
    cases hb
    obtain ⟨htype, -⟩ : 4 ≤ type.toNat ∧ infFits sinf = true := by simpa [Instr.wellFormed] using hi
    rw [selectRow_supervisory ((busy_and_ne_resyncing c.st).symm.trans hsel), supervisoryRow, if_neg (by bv_omega),
      if_neg (by bv_omega), if_neg (by bv_omega), if_neg (by bv_omega)]
  | anyResyncing block =>
    obtain ⟨-, hne⟩ := Bool.and_eq_true_iff.mp hi
    cases hb
    rw [selectRow_resyncing (by simpa [rowSelected] using hsel), resyncingRow, if_neg (bne_iff_ne.mp hne)]
  | openCmd | closeCmd | exchangeCmd | cancelBusy | cancelNotBusy | resyncCmd => cases hb

/-- The word of a command row is read back as that row in every state that selects it (R107, R280). -/
theorem decodeCommand_rowCommand {c : DecodeCtx} {i : Instr} (hsel : rowSelected c i = true) (hb : rowBlock i = none) :
    decodeCommand (busy c.st) (rowCommand i).1 (rowCommand i).2 = some i := by
  cases i with
  | openCmd cedc cnad cifs => exact decodeCommand_openWord _ cedc cnad cifs []
  | exchangeCmd apdu => simp [decodeCommand, rowCommand]
  | closeCmd | resyncCmd => rfl
  | cancelBusy => rw [show busy c.st = true from hsel]; rfl
  | cancelNotBusy => rw [show busy c.st = false by simpa [rowSelected] using hsel]; rfl
  | _ => cases hb

/-- Settles O9: a frame row is read back in two parts, its block from the frame and its row from the state; a command row is
read back from its word. -/
theorem everyInstructionRoundTrips : Obligations.EveryInstructionRoundTrips := by
  intro c nad i hi hsel
  cases hb : rowBlock i with
  | some b =>
    have hencode : encode c nad i = .rx (.frame (encodeBlock c nad b)) := by simp only [encode, hb]
    rw [hencode]
    exact decode_frame_eq_instr (decodeFrame_encodeBlock c nad b (rowBlock_wellFormed hi hb))
      (selectRow_rowBlock ⟨hi, hsel⟩ hb)
  | none =>
    have hencode : encode c nad i = .cmd (rowCommand i).1 (rowCommand i).2 := by simp only [encode, hb]
    rw [hencode]
    exact decode_cmd_eq_instr.mpr (decodeCommand_rowCommand hsel hb)

/-- An event that the encoder makes of an instruction in its row decodes to that instruction. -/
theorem decode_eq_instr_of_encode {c : DecodeCtx} {e : Event} {i : Instr} (nad : Byte) (he : encode c nad i = e)
    (hi : InRow c i) : decode c e = .instr i :=
  he ▸ everyInstructionRoundTrips c nad i hi.1 hi.2

/-- Settles O14: each word is the one that the encoder makes of its instruction, with node address 0, so it decodes back. -/
theorem specWordsDecode : Obligations.SpecWordsDecode := by
  refine ⟨?_, ?_, ?_, ?_, ?_⟩
  · exact decode_eq_instr_of_encode 0x00 (by decide) ⟨rfl, rfl⟩
  · exact decode_eq_instr_of_encode 0x00 (by decide) ⟨rfl, rfl⟩
  · exact decode_eq_instr_of_encode 0x00 (by decide) ⟨rfl, rfl⟩
  · exact decode_eq_instr_of_encode 0x00 (by decide) ⟨rfl, rfl⟩
  · exact decode_eq_instr_of_encode 0x00 (by decide) ⟨rfl, rfl⟩

end Sys2Proof.Machine
end

section
/-! Command words that are not well-formed (`30_encoding.md` R107, R109): the decoder turns away every one of them. -/

namespace Sys2Proof.Machine

/-- A field that the mask keeps whole is read from the masked word. -/
theorem extractLsb'_eq_of_mask {w mask v : CommandWord} (start len : Nat) (h : w &&& mask = v)
    (hmask : mask.extractLsb' start len = BitVec.allOnes len) : w.extractLsb' start len = v.extractLsb' start len := by
  rw [← h, BitVec.extractLsb'_and, hmask, BitVec.and_allOnes]

/-- A word that decodes is well-formed (R107). -/
theorem wordWellFormed_of_decodeCommand {isBusy : Bool} {w : CommandWord} {apdu : ByteString} {i : Instr}
    (h : decodeCommand isBusy w apdu = some i) : wordWellFormed w := by
  rcases decodeCommand_cases h with ⟨_, _, _, -, hw⟩ | ⟨-, rfl⟩ | ⟨-, rfl⟩ | ⟨-, rfl, -⟩ | ⟨-, rfl, -⟩ | ⟨-, rfl⟩
  · exact .inl ⟨extractLsb'_eq_of_mask 0 4 hw (by decide), extractLsb'_eq_of_mask 5 3 hw (by decide),
      extractLsb'_eq_of_mask 24 8 hw (by decide)⟩
  · exact .inr (by decide)
  · exact .inr (by decide)
  · exact .inr (by decide)
  · exact .inr (by decide)
  · exact .inr (by decide)

/-- Settles O7: every word that decodes is well-formed, so one that is not is answered by `badCommand`. -/
theorem illFormedWordIsRejected : Obligations.IllFormedWordIsRejected := by
  intro s w apdu rest hfault hinbox hword
  have hnone : decodeCommand (busy s.st) w apdu = none :=
    Option.eq_none_iff_forall_ne_some.mpr fun _ hsome => hword (wordWellFormed_of_decodeCommand hsome)
  have hstep : step s = .next (badCommand { s with inbox := rest }) :=
    (step_eq hfault hinbox).trans (handleEvent_cmd_bad hnone)
  refine ⟨fun hbusy => ?_, fun hbusy => ?_⟩ <;> rw [hstep, badCommand, unlessBusy_eq]
  · rw [if_neg (by simp [hbusy])]
    rfl
  · rw [if_pos hbusy]
    rfl

end Sys2Proof.Machine
end

section
/-! The length of an emitted frame (`30_encoding.md` R93, R96). A frame the engine builds has an INF of at most 254 bytes: a
fragment is no longer than `ifs`, and every other INF has at most one byte. A frame it resends is the one in flight, which it
built before (`70_reset_and_hazards.md` R358). -/

namespace Sys2Proof.Machine

/-- A frame of a legal length: an INF of 0 to 254 bytes between the prologue and the checksum (R90, R96). -/
def LegalLength (mode : Edc) (f : ByteString) : Prop := 3 + edcLen mode ≤ f.length ∧ f.length ≤ 3 + 254 + edcLen mode

/-- The rule that led from `s` to `t` only sent frames that have a legal length in the session of `s`. -/
def SendsLegalFrames (s t : State) : Prop :=
  ∃ ms, t.outbox = s.outbox ++ ms ∧ ∀ f m, .tx f m ∈ ms → LegalLength s.edc f

theorem legalLength_mkFrame (fn : CrcFn) (mode : Edc) (nad pcb : Byte) {inf : ByteString} (h : inf.length ≤ 254) :
    LegalLength mode (mkFrame fn mode nad pcb inf) := by
  rw [LegalLength, mkFrame_length]
  omega

theorem busy_of_awaitsReply {s : State} (h : awaitsReply s = true) : busy s.st = true := (Bool.and_eq_true_iff.mp h).2

/-- The frame that a retransmission resends has a legal length: its fragment, if it carries one, is the one in flight. -/
theorem legalLength_lastTx {s : State} (h : Sound s) (hl : LastTxIsTheBlockInFlight s) (hb : busy s.st = true) :
    LegalLength s.edc s.lastTx := by
  have hfrag : ((s.txBuf.drop s.txOff.toNat).take s.fragLen.toNat).length ≤ 254 :=
    (List.length_take_le _ _).trans (h.fragLen_legal (by rintro hst; simp [hst, busy] at hb))
  unfold LastTxIsTheBlockInFlight at hl
  split at hl
  · exact hl ▸ legalLength_mkFrame _ _ _ _ hfrag
  · exact hl ▸ legalLength_mkFrame _ _ _ _ hfrag
  · exact hl ▸ legalLength_mkFrame _ _ _ _ (Nat.zero_le _)
  · exact hl ▸ legalLength_mkFrame _ _ _ _ (Nat.zero_le _)
  all_goals rename_i hst; simp [hst, busy] at hb

/-! ### The messages of a rule -/

section

variable {s t : State}

theorem sendsLegalFrames_of_frame {f : ByteString} {m : Byte} (hf : LegalLength s.edc f)
    (ho : t.outbox = s.outbox ++ [.tx f m]) : SendsLegalFrames s t := by
  refine ⟨_, ho, fun g k hg => ?_⟩
  obtain ⟨rfl, -⟩ : g = f ∧ k = m := by simpa using hg
  exact hf

theorem sendsLegalFrames_of_result {code : Status} {detail : Byte} {data : ByteString}
    (ho : t.outbox = s.outbox ++ [.result code detail data]) : SendsLegalFrames s t :=
  ⟨_, ho, by simp⟩

theorem sendsLegalFrames_of_silence (ho : t.outbox = s.outbox) : SendsLegalFrames s t :=
  ⟨[], by rw [ho, List.append_nil], by simp⟩

end

/-! ### The shared procedures -/

/-- A fragment is cut no longer than `ifs` (R182). -/
theorem sendsLegalFrames_sendFragment {s : State} (h : s.ifs.toNat ≤ 254) : SendsLegalFrames s (sendFragment s) := by
  have hfrag : (memRead s.txBuf s.txOff.toNat (nextFragLen s)).length ≤ 254 :=
    (List.length_take_le _ _).trans ((Nat.min_le_left _ _).trans h)
  exact sendsLegalFrames_of_frame (legalLength_mkFrame _ _ _ _ hfrag) rfl

theorem sendsLegalFrames_startExchange {s : State} (h : s.ifs.toNat ≤ 254) (apdu : ByteString) :
    SendsLegalFrames s (startExchange apdu s) :=
  sendsLegalFrames_sendFragment (s := { s with txBuf := apdu, txOff := 0, rxBuf := [], retry := 0, lastCause := 0x00 }) h

theorem sendsLegalFrames_ackAdvance {s : State} (h : s.ifs.toNat ≤ 254) : SendsLegalFrames s (ackAdvance s) :=
  sendsLegalFrames_sendFragment (s := { s with ns := !s.ns, txOff := s.txOff + s.fragLen.setWidth 32 }) h

theorem sendsLegalFrames_resyncStarted (o : Origin) (s : State) : SendsLegalFrames s (resyncStarted o s) :=
  sendsLegalFrames_of_frame (legalLength_mkFrame _ _ _ _ (Nat.zero_le _)) rfl

theorem sendsLegalFrames_recoverable {s : State} (h : LegalLength s.edc s.lastTx) (cause : BitVec 7) :
    SendsLegalFrames s (recoverable cause s) := by
  rcases recovered_cases (recoverable_spec cause s) with ⟨-, he⟩ | ⟨-, -, he⟩ | ⟨-, -, he⟩ <;> rw [he]
  · exact sendsLegalFrames_of_frame h rfl
  · exact sendsLegalFrames_of_result rfl
  · exact sendsLegalFrames_resyncStarted _ _

theorem sendsLegalFrames_resyncAttemptFailed {s : State} (h : LegalLength s.edc s.lastTx) :
    SendsLegalFrames s (resyncAttemptFailed s) := by
  rcases attemptFailed_cases (resyncAttemptFailed_spec s) with ⟨-, he⟩ | ⟨-, he⟩ <;> rw [he]
  · exact sendsLegalFrames_of_frame h rfl
  · exact sendsLegalFrames_of_result rfl

theorem sendsLegalFrames_accept (m : Bool) (inf : ByteString) (s : State) : SendsLegalFrames s (accept m inf s) := by
  rcases accept_cases m inf s with ⟨-, he⟩ | ⟨-, -, he⟩ | ⟨-, -, he⟩ <;> rw [he]
  · exact sendsLegalFrames_of_result rfl
  · exact sendsLegalFrames_of_frame (legalLength_mkFrame _ _ _ _ (Nat.zero_le _)) rfl
  · exact sendsLegalFrames_of_result rfl

theorem sendsLegalFrames_resyncDone (s : State) : SendsLegalFrames s (resyncDone s) := by
  rw [resyncDone_eq]
  refine ⟨_, rfl, ?_⟩
  cases s.origin <;> simp

theorem sendsLegalFrames_hostCancel (s : State) : SendsLegalFrames s (hostCancel s) :=
  ⟨[.rdCancel, .result .eCancelled 0x00 []], List.append_assoc _ _ _, by simp⟩

/-- The parameter of a response has at most one byte (R165). -/
theorem legalLength_encodeSResp (fn : CrcFn) (mode : Edc) (nad : Byte) (type : BitVec 5) {sinf : ByteString}
    (h : sinf.length ≤ 1) : LegalLength mode (encodeSResp fn mode nad type sinf) :=
  legalLength_mkFrame _ _ _ _ (h.trans (by decide))

theorem sendsLegalFrames_cardAbort (s : State) : SendsLegalFrames s (cardAbort s) := by
  refine ⟨[.tx _ 0, .result .eCardAbort 0x00 []], List.append_assoc _ _ _, fun f m hm => ?_⟩
  obtain ⟨rfl, -⟩ : f = encodeSResp s.cfg.crc16Fn s.edc s.nad 2 [] ∧ m = 0 := by simpa using hm
  exact legalLength_encodeSResp _ _ _ _ (Nat.zero_le _)

/-! ### Every step -/

/-- Every effect of an event only sends frames of a legal length. The prologue changes neither `lastTx` nor `edc` nor the
messages, so a rule's frames are those of the state before it. -/
theorem Effect.sendsLegalFrames {s t : State} {e : Event} (he : Effect s e t) (h : Sound s)
    (hl : LastTxIsTheBlockInFlight s) : SendsLegalFrames s t := by
  have hifs : s.st ≠ .closed → s.ifs.toNat ≤ 254 := fun hc => (h.session hc).ifs_range.2
  have hlast : awaitsReply s = true → LegalLength s.edc s.lastTx := fun ha =>
    legalLength_lastTx h hl (busy_of_awaitsReply ha)
  cases he with
  | hostViolation | transportViolation | ignored => exact sendsLegalFrames_of_silence rfl
  | turnedAway | opened | closed | aborted => exact sendsLegalFrames_of_result rfl
  | exchangeStarted apdu _ hst => exact sendsLegalFrames_startExchange (hifs (by simp [hst])) apdu
  | resyncStarted => exact sendsLegalFrames_resyncStarted _ _
  | cancelled => exact sendsLegalFrames_hostCancel s
  | recovered _ cause _ ha => exact sendsLegalFrames_recoverable (s := rxPrologue s) (hlast ha) cause
  | acknowledged _ _ _ _ hst => exact sendsLegalFrames_ackAdvance (s := rxPrologue s) (hifs (by simp [hst]))
  | firstAccepted _ _ m inf => exact sendsLegalFrames_accept m inf _
  | nextAccepted _ _ m inf => exact sendsLegalFrames_accept m inf _
  | resent _ _ ha => exact sendsLegalFrames_of_frame (hlast ha) rfl
  | waitGranted | ifsAdopted => exact sendsLegalFrames_of_frame (legalLength_encodeSResp _ _ _ _ le_rfl) rfl
  | cardAborted => exact sendsLegalFrames_cardAbort _
  | resynced => exact sendsLegalFrames_resyncDone _
  | attemptFailed _ _ ha => exact sendsLegalFrames_resyncAttemptFailed (s := rxPrologue s) (hlast ha)

/-- Settles O54: a step that waits sends nothing, and every effect of an event sends frames of a legal length. -/
theorem emittedFramesHaveLegalLength : Obligations.EmittedFramesHaveLegalLength := by
  intro s t h hl hstep
  obtain ⟨-, ⟨-, rfl⟩ | ⟨e, rest, -, heffect⟩⟩ := step_effect hstep
  · exact sendsLegalFrames_of_silence rfl
  · exact heffect.sendsLegalFrames (h.take rest) hl

end Sys2Proof.Machine
end

section
/-! Single-byte error detection (`40_checksum.md` R133, R134, R140). Both checksums run an accumulator over the bytes. Its update
can be undone: given the byte it is injective in the accumulator, and given the accumulator it is injective in the byte. A
changed byte therefore changes the accumulator, and no byte after it changes it back. -/

namespace Sys2Proof.Machine

/-! ### Accumulators that lose nothing -/

/-- A run over a suffix keeps unequal accumulators unequal. -/
theorem foldl_injective {α β : Type} {f : α → β → α} (hacc : ∀ b, Function.Injective (f · b)) (l : List β) :
    Function.Injective (l.foldl f ·) := by
  induction l with
  | nil => exact Function.injective_id
  | cons b l ih => exact ih.comp (hacc b)

theorem foldl_set_ne {α β : Type} {f : α → β → α} (hacc : ∀ b, Function.Injective (f · b))
    (hbyte : ∀ a, Function.Injective (f a)) {l : List β} {k : Nat} {x : β} (hk : k < l.length) (hx : l[k] ≠ x) (a : α) :
    (l.set k x).foldl f a ≠ l.foldl f a := by
  induction l generalizing k a with
  | nil => exact absurd hk (Nat.not_lt_zero k)
  | cons b l ih =>
    cases k with
    | zero => exact (foldl_injective hacc l).ne ((hbyte a).ne (Ne.symm hx))
    | succ k => exact ih (Nat.lt_of_succ_lt_succ hk) hx (f a b)

/-! ### The two checksums -/

/-- The bit shifted out can be read off the result: of `v >>> 1` and `0x8408`, only the constant has bit 15. -/
theorem crcShift_getLsbD_15 (v : BitVec 16) : (crcShift v).getLsbD 15 = v.getLsbD 0 := by
  unfold crcShift
  split
  next h => simpa [BitVec.getLsbD_ushiftRight] using h.symm
  next h => simpa [BitVec.getLsbD_ushiftRight] using h

theorem crcShift_injective : Function.Injective crcShift := by
  intro v w h
  have hlow : v.getLsbD 0 = w.getLsbD 0 := by rw [← crcShift_getLsbD_15, h, crcShift_getLsbD_15]
  have hhigh : v >>> 1 = w >>> 1 := by
    unfold crcShift at h
    rw [hlow] at h
    split at h
    · exact (BitVec.xor_left_inj _).mp h
    · exact h
  apply BitVec.eq_of_getLsbD_eq
  intro i _
  cases i with
  | zero => exact hlow
  | succ i => simpa [BitVec.getLsbD_ushiftRight, Nat.add_comm] using congrArg (·.getLsbD i) hhigh

theorem crcByte_eq_iterate (v : BitVec 16) (b : Byte) : crcByte v b = crcShift^[8] (v ^^^ b.setWidth 16) := rfl

theorem crcByte_injective_acc (b : Byte) : Function.Injective (crcByte · b) := by
  intro v w h
  simp only [crcByte_eq_iterate] at h
  exact (BitVec.xor_left_inj _).mp (crcShift_injective.iterate 8 h)

theorem byte_setWidth_injective : Function.Injective (BitVec.setWidth 16 : Byte → BitVec 16) := by
  intro b c h
  simpa using congrArg (BitVec.setWidth 8) h

theorem crcByte_injective_byte (v : BitVec 16) : Function.Injective (crcByte v) := by
  intro b c h
  simp only [crcByte_eq_iterate] at h
  exact byte_setWidth_injective ((BitVec.xor_right_inj v).mp (crcShift_injective.iterate 8 h))

theorem crcBytes_injective : Function.Injective crcBytes := by
  intro v w h
  have hjoin (u : BitVec 16) : u.extractLsb' 8 8 ++ u.extractLsb' 0 8 = u :=
    (BitVec.extractLsb'_append_extractLsb'_eq_extractLsb' rfl).trans BitVec.extractLsb'_eq_self
  simp only [crcBytes, List.cons.injEq, and_true] at h
  obtain ⟨hmost, hleast⟩ := h
  rw [← hjoin v, ← hjoin w, hmost, hleast]

/-- A byte changed before the checksum changes the checksum (R140). -/
theorem checksum_set_ne (mode : Edc) {s : ByteString} {k : Nat} {x : Byte} (hk : k < s.length) (hx : s[k] ≠ x) :
    checksum .standard mode (s.set k x) ≠ checksum .standard mode s := by
  cases mode with
  | lrc =>
    have hlrc : lrc (s.set k x) ≠ lrc s :=
      foldl_set_ne (fun b _ _ => (BitVec.xor_left_inj b).mp) (fun a _ _ => (BitVec.xor_right_inj a).mp) hk hx 0x00
    exact fun h => hlrc (List.singleton_injective h)
  | crc => exact crcBytes_injective.ne (foldl_set_ne crcByte_injective_acc crcByte_injective_byte hk hx _)

/-! ### Frames -/

/-- A changed byte of the body no longer meets the checksum, and a changed checksum no longer meets the body (R137, R140). -/
theorem verify_set {mode : Edc} {f : ByteString} {k : Nat} {x : Byte} (hf : verify .standard mode f = true)
    (hk : k < f.length) (hx : f[k] ≠ x) : verify .standard mode (f.set k x) = false := by
  simp only [verify, beq_iff_eq, beq_eq_false_iff_ne, List.length_set] at hf ⊢
  generalize f.length - edcLen mode = n at hf ⊢
  by_cases hbody : k < n
  · rw [List.take_set, List.drop_set_of_lt hbody, ← hf]
    exact checksum_set_ne mode (by simpa using ⟨hbody, hk⟩) (by simpa using hx)
  · rw [List.take_set_of_le (by omega), hf]
    intro hdrop
    exact hx (by simpa [Nat.add_sub_cancel' (Nat.le_of_not_lt hbody), hk] using congrArg (·[k - n]?) hdrop)

theorem decodeFrame_eq_checksumLength {fn : CrcFn} {mode : Edc} {f : ByteString} (hmin : 3 + edcLen mode ≤ f.length)
    (hlen : f.length ≠ 3 + (f.getD 2 0).toNat + edcLen mode) : decodeFrame fn mode f = .checksumLength := by
  rw [decodeFrame, if_neg (by omega), if_pos hlen]

theorem decodeFrame_eq_checksumEdc {fn : CrcFn} {mode : Edc} {f : ByteString}
    (hlen : f.length = 3 + (f.getD 2 0).toNat + edcLen mode) (hv : verify fn mode f = false) :
    decodeFrame fn mode f = .checksumEdc := by
  rw [decodeFrame, if_neg (by omega), if_neg (by simpa using hlen), if_pos hv]

/-- Settles O15: with another LEN the frame no longer has the length that LEN says, and with any other byte changed it has that
length still but fails the checksum. -/
theorem singleByteChangeIsAChecksumError : Obligations.SingleByteChangeIsAChecksumError := by
  intro mode f b k x hf hk hx
  obtain ⟨hlen, hv, -⟩ := decodeFrame_eq_ok hf
  split
  next hk2 =>
    subst hk2
    have hne : (f.getD 2 0).toNat ≠ x.toNat := fun h => hx (BitVec.eq_of_toNat_eq h)
    refine decodeFrame_eq_checksumLength (by rw [List.length_set]; omega) ?_
    rw [List.length_set, List.getD_eq_getElem _ _ (by simpa using hk), List.getElem_set_self]
    omega
  next hk2 =>
    rw [List.getD_eq_getElem _ _ hk] at hx
    refine decodeFrame_eq_checksumEdc ?_ (verify_set hv hk hx)
    rw [List.length_set, hlen]
    simp [hk2]

end Sys2Proof.Machine
end

section
/-! What the frame decoder answers (`41_codec.md` R151 to R157, R166): the error of the first test that fails, and otherwise the
block that the PCB names. A mask of `classify` tests the top bits of the PCB, so it is a bound on its value; a field is a part
of its binary digits. -/

namespace Sys2Proof.Machine

/-! ### The tests of the decoder -/

theorem verify_eq_true_iff {fn : CrcFn} {mode : Edc} {f : ByteString} :
    verify fn mode f = true ↔ checksum fn mode (f.take (f.length - edcLen mode)) = f.drop (f.length - edcLen mode) := by
  rw [verify, beq_iff_eq]

theorem decodeFrame_eq_framingShort {fn : CrcFn} {mode : Edc} {f : ByteString} (h : f.length < 3 + edcLen mode) :
    decodeFrame fn mode f = .framingShort := by
  rw [decodeFrame, if_pos h]

/-- A frame that passes the three tests is classified (R154); `decodeFrame_eq_ok` is the converse. -/
theorem decodeFrame_of_verify {fn : CrcFn} {mode : Edc} {f : ByteString}
    (hlen : f.length = 3 + (f.getD 2 0).toNat + edcLen mode) (hv : verify fn mode f = true) :
    decodeFrame fn mode f = .ok (classify (f.getD 1 0) ((f.drop 3).take (f.getD 2 0).toNat)) := by
  rw [decodeFrame, if_neg (by omega), if_neg (by simpa using hlen), if_neg (by simp [hv])]

/-- Settles O12: each clause is the test that fails first. -/
theorem decodeErrorsInOrder : Obligations.DecodeErrorsInOrder := by
  intro fn mode f
  refine ⟨decodeFrame_eq_framingShort, decodeFrame_eq_checksumLength, fun hlen hsum => ?_⟩
  exact decodeFrame_eq_checksumEdc hlen (Bool.eq_false_iff.mpr fun hv => hsum (verify_eq_true_iff.mp hv))

/-! ### The PCB -/

/-- The mask of an I-block (R97) tests the most significant bit. -/
theorem and_infoMask_eq_zero_iff (p : Byte) : p &&& 0x80 = 0x00 ↔ p.toNat < 0x80 := by
  revert p
  decide

/-- The mask of an S-block (R97) tests the two most significant bits. -/
theorem and_supervisoryMask_eq_iff (p : Byte) : p &&& 0xC0 = 0xC0 ↔ 0xC0 ≤ p.toNat := by
  revert p
  decide

theorem getLsbD_eq_decide (p : Byte) (k : Nat) : p.getLsbD k = decide (p.toNat / 2 ^ k % 2 = 1) :=
  Nat.testBit_eq_decide_div_mod_eq

theorem extractLsb'_zero_eq_ofNat_mod (p : Byte) (k : Nat) : p.extractLsb' 0 k = BitVec.ofNat k (p.toNat % 2 ^ k) := by
  apply BitVec.eq_of_toNat_eq
  simp

theorem classify_info {p : Byte} (h : p.toNat < 0x80) (body : ByteString) :
    classify p body = .info (decide (p.toNat / 64 % 2 = 1)) (decide (p.toNat / 32 % 2 = 1)) body := by
  rw [classify, if_pos ((and_infoMask_eq_zero_iff p).mpr h), getLsbD_eq_decide, getLsbD_eq_decide]
  rfl

theorem classify_ready {p : Byte} (hlo : 0x80 ≤ p.toNat) (hhi : p.toNat < 0xC0) (body : ByteString) :
    classify p body = .ready (decide (p.toNat / 16 % 2 = 1)) (BitVec.ofNat 4 (p.toNat % 16)) := by
  have hinfo : ¬ p &&& 0x80 = 0x00 := fun h => absurd ((and_infoMask_eq_zero_iff p).mp h) (by omega)
  have hsup : ¬ p &&& 0xC0 = 0xC0 := fun h => absurd ((and_supervisoryMask_eq_iff p).mp h) (by omega)
  rw [classify, if_neg hinfo, if_neg hsup, getLsbD_eq_decide, extractLsb'_zero_eq_ofNat_mod]
  rfl

theorem classify_supervisory {p : Byte} (h : 0xC0 ≤ p.toNat) (body : ByteString) :
    classify p body = .supervisory (decide (p.toNat / 32 % 2 = 1)) (BitVec.ofNat 5 (p.toNat % 32)) body := by
  have hinfo : ¬ p &&& 0x80 = 0x00 := fun h0 => absurd ((and_infoMask_eq_zero_iff p).mp h0) (by omega)
  rw [classify, if_neg hinfo, if_pos ((and_supervisoryMask_eq_iff p).mpr h), getLsbD_eq_decide,
    extractLsb'_zero_eq_ofNat_mod]
  rfl

/-- Settles O13: a frame that passes the three tests is classified, and the range of the PCB selects the branch of `classify`. -/
theorem pcbSelectsClassAndFields : Obligations.PcbSelectsClassAndFields := by
  intro fn mode f hlen hsum
  rw [decodeFrame_of_verify hlen (verify_eq_true_iff.mpr hsum)]
  exact ⟨fun hinfo => congrArg FrameResult.ok (classify_info hinfo _),
    fun hlo hhi => congrArg FrameResult.ok (classify_ready hlo hhi _),
    fun hsup => congrArg FrameResult.ok (classify_supervisory hsup _)⟩

/-! ### The engine's own frames -/

/-- Settles O11: `decodeFrame_mkFrame` reads the PCB and the INF back, and `classify` undoes the PCB of each class. -/
theorem engineFramesDecodeBack : Obligations.EngineFramesDecodeBack := by
  intro fn mode nad
  refine ⟨fun s m frag hfrag => ?info, fun n => ?ready, ?resync, fun t x _ hx => ?response⟩
  case info => rw [encodeI, decodeFrame_mkFrame _ _ _ _ _ (by omega), classify_infoPcb]
  case ready => rw [encodeR, decodeFrame_mkFrame _ _ _ _ _ (by simp), classify_readyPcb]
  case resync => rw [encodeSResync, decodeFrame_mkFrame _ _ _ _ _ (by simp), classify_supervisoryPcb]
  case response => rw [encodeSResp, decodeFrame_mkFrame _ _ _ _ _ (by omega), classify_supervisoryPcb]

end Sys2Proof.Machine
end

section
/-! Replies to a pending read while an exchange goes on (`42_exchange.md` R187 to R190): an event that is no block either aborts
the exchange or counts as a recoverable error. -/

namespace Sys2Proof.Machine

/-- An exchange goes on and its read is pending: the states in which R187 to R200 answer a reply. -/
structure AwaitsReplyInExchange (s : State) : Prop where
  no_fault : s.fault = .none
  in_exchange : inExchange s.st = true
  read_pending : s.rxPending = true

/-- In an exchange, an event that is no block runs the rule of R187 to R190 and not that of a resynchronization (R262). -/
theorem unlessResyncing_received {s : State} (h : inExchange s.st = true) (rule : State → State) (rest : List Event) :
    unlessResyncing rule (received s rest) = rule (received s rest) := by
  have hst : (received s rest).st ≠ .resyncing := by
    rintro (hst : s.st = .resyncing)
    simp [hst, inExchange] at h
  rw [unlessResyncing, if_neg hst]

/-- An awaited event that is no block runs its rule after the prologue (R186). -/
theorem AwaitsReplyInExchange.step_rejected {s : State} (h : AwaitsReplyInExchange s) {r : RxEvent} {j : Reject}
    {rest : List Event} (hinbox : s.inbox = .rx r :: rest) (hd : decode (decodeCtx s) (.rx r) = .rejected j) :
    step s = .next (onReject j (received s rest)) := by
  obtain ⟨hfault, hx, hpending⟩ := h
  have hawaits : awaitsReply { s with inbox := rest } = true := by
    simp [awaitsReply, hpending, busy_of_inExchange hx]
  rw [step_eq hfault hinbox, handleEvent_rx_rejected hawaits hd, rxPrologue_taken]

/-- Settles O16: a timeout decodes to no block, and its rule in an exchange is the abort. -/
theorem timeoutAborts : Obligations.TimeoutAborts := by
  intro s rest hfault hinbox hpending hx
  have h : AwaitsReplyInExchange s := ⟨hfault, hx, hpending⟩
  rw [h.step_rejected hinbox rfl, onReject, onTimeout, unlessResyncing_received hx, abort_eq]

/-- Settles O17: a transport error decodes to no block, and its rule in an exchange is the abort. -/
theorem transportErrorAborts : Obligations.TransportErrorAborts := by
  intro s rest hfault hinbox hpending hx
  have h : AwaitsReplyInExchange s := ⟨hfault, hx, hpending⟩
  rw [h.step_rejected hinbox rfl, onReject, onTransportError, unlessResyncing_received hx, abort_eq]

/-- Settles O18: the decoder tests the minimum length first. -/
theorem shortFrameAborts : Obligations.ShortFrameAborts := by
  intro s f rest hfault hinbox hpending hx hshort
  have h : AwaitsReplyInExchange s := ⟨hfault, hx, hpending⟩
  have hd : decode (decodeCtx s) (.rx (.frame f)) = .rejected .framingShort := by
    simp [decode, decodeCtx, decodeFrame_eq_framingShort hshort]
  rw [h.step_rejected hinbox hd, onReject, onFramingShort, unlessResyncing_received hx, abort_eq]
  rfl

/-- A reply whose checksum is wrong or whose LEN disagrees with its length (R152, R153). -/
def CorruptFrame (fn : CrcFn) (mode : Edc) (f : ByteString) : Prop :=
  decodeFrame fn mode f = .checksumLength ∨ decodeFrame fn mode f = .checksumEdc

/-- The two checksum errors have one rule (R190). -/
theorem AwaitsReplyInExchange.step_corrupt {s : State} (h : AwaitsReplyInExchange s) {f : ByteString} {rest : List Event}
    (hinbox : s.inbox = .rx (.frame f) :: rest) (hf : CorruptFrame s.cfg.crc16Fn s.edc f) :
    step s = .next (recoverable causeChecksum (received s rest)) := by
  have hrule : onChecksumError (received s rest) = recoverable causeChecksum (received s rest) :=
    unlessResyncing_received h.in_exchange _ _
  rcases hf with hf | hf
  · rw [h.step_rejected hinbox (j := .checksumLength) (by simp [decode, decodeCtx, hf]), onReject, hrule]
  · rw [h.step_rejected hinbox (j := .checksumEdc) (by simp [decode, decodeCtx, hf]), onReject, hrule]

/-- Settles O19: a corrupt reply runs `Recoverable`, which does what R185 and R210 say. -/
theorem checksumErrorIsRecoverable : Obligations.ChecksumErrorIsRecoverable := by
  intro s f rest hfault hinbox hpending hx hf
  have h : AwaitsReplyInExchange s := ⟨hfault, hx, hpending⟩
  exact ⟨_, h.step_corrupt hinbox hf, recoverable_spec causeChecksum _⟩

end Sys2Proof.Machine
end

section
/-! The rows of a block received in an exchange (`42_exchange.md` R191 to R200) and of the command that starts one
(`45_host_commands.md` R285): each row runs one shared procedure, whose own lemma says the effect. -/

namespace Sys2Proof.Machine

/-! ### Fragments -/

/-- Going past the fragment in flight does not wrap the offset while it stays below 2^32 (`10_state.md` R31). -/
theorem toNat_nextOffset {off : BitVec 32} {len : BitVec 8} (h : off.toNat + len.toNat < 2 ^ 32) :
    (off + len.setWidth 32).toNat = off.toNat + len.toNat := by
  bv_omega

/-- A positive acknowledgement sends the fragment after the one in flight (R191). -/
theorem ackAdvance_eq {s : State} (h : s.txOff.toNat + s.fragLen.toNat < 2 ^ 32) :
    ackAdvance s = fragmentSent (s.txOff.toNat + s.fragLen.toNat) (!s.ns)
      { s with ns := !s.ns, txOff := BitVec.ofNat 32 (s.txOff.toNat + s.fragLen.toNat) } := by
  have hoff := toNat_nextOffset h
  rw [ackAdvance, sendFragment_eq, hoff, ← hoff, BitVec.ofNat_toNat, BitVec.setWidth_eq]

/-- Settles O20: the row runs `ackAdvance`, whatever N(R) it was decoded with. -/
theorem positiveAckSendsTheNextFragment : Obligations.PositiveAckSendsTheNextFragment := by
  intro s n _ _ hoff
  exact congrArg Host.Outcome.next (ackAdvance_eq hoff)

/-- An EXCHANGE that IDLE accepts starts the exchange (R285). -/
theorem exec_exchangeCmd_idle {s : State} (hst : s.st = .idle) {apdu : ByteString} (hl : apdu.length ≤ s.cfg.apduMax) :
    exec (.exchangeCmd apdu) s = .next (startExchange apdu s) := by
  simp [exec, execExchangeCmd, unlessBusy_eq, exchange, hst, busy, Nat.not_lt.mpr hl]

/-- Settles O37: the exchange starts with `SendFragment()` at offset 0. -/
theorem exchangeSendsTheFirstFragment : Obligations.ExchangeSendsTheFirstFragment := by
  intro s apdu hst hl
  rw [exec_exchangeCmd_idle hst hl, startExchange, sendFragment_eq]
  rfl

/-! ### Blocks that do not advance the exchange -/

/-- Settles O21: the cause of the row is the class of R34 with the card's code. -/
theorem errorRBlockIsRecoverable : Obligations.ErrorRBlockIsRecoverable :=
  fun s _ e _ _ => ⟨_, rfl, recoverable_spec (causeRError e) s⟩

/-- Settles O22: the three rows count the same protocol error. -/
theorem uselessRBlockIsRecoverable : Obligations.UselessRBlockIsRecoverable :=
  fun s _ =>
    have hcounted := recoverable_spec causeProtocol s
    ⟨fun _ _ => ⟨_, rfl, hcounted⟩, fun _ => ⟨_, rfl, hcounted⟩, fun _ => ⟨_, rfl, hcounted⟩⟩

/-- Settles O23: neither the payload nor `ns` enters the row's rule. -/
theorem iBlockInAwaitAckIsRecoverable : Obligations.IBlockInAwaitAckIsRecoverable :=
  fun s _ _ _ _ => ⟨_, rfl, recoverable_spec causeProtocol s⟩

/-- Settles O26: both rows resend the last frame and count nothing. -/
theorem wrongSequenceBitResends : Obligations.WrongSequenceBitResends := by
  intro s b m inf _
  have hresent := congrArg (Host.Outcome.next (φ := Fault) (ρ := Refusal)) (retransmit_eq s)
  exact ⟨fun _ => hresent, fun _ => hresent⟩

/-! ### Blocks of the response -/

/-- Settles O24: `ns` is toggled before the block is accepted. -/
theorem firstResponseBlockIsAccepted : Obligations.FirstResponseBlockIsAccepted :=
  fun s m inf _ => ⟨_, rfl, accept_spec m inf { s with ns := !s.ns }⟩

/-- Settles O25: the block is accepted as the registers stand, so `ns` stays. -/
theorem nextResponseBlockIsAccepted : Obligations.NextResponseBlockIsAccepted :=
  fun s m inf _ => ⟨_, rfl, accept_spec m inf s⟩

end Sys2Proof.Machine
end

section
/-! The sequence bits (`42_exchange.md` R205, `10_state.md` R27, R28): the shared procedures that end an exchange or resend a
frame keep both, so that only the rows named by R205 write them. -/

namespace Sys2Proof.Machine

/-- The two sequence bits: `ns` of the next I-block sent and `nr` of the next one expected. -/
def sequenceBits (s : State) : Bool × Bool := (s.ns, s.nr)

theorem sequenceBits_eq_iff {s t : State} : sequenceBits t = sequenceBits s ↔ t.ns = s.ns ∧ t.nr = s.nr := by
  simp [sequenceBits]

/-! ### The shared procedures -/

theorem sequenceBits_recoverable (cause : BitVec 7) (s : State) :
    sequenceBits (recoverable cause s) = sequenceBits s := by
  rcases recovered_cases (recoverable_spec cause s) with ⟨-, he⟩ | ⟨-, -, he⟩ | ⟨-, -, he⟩ <;> rw [he] <;> rfl

theorem sequenceBits_resyncAttemptFailed (s : State) : sequenceBits (resyncAttemptFailed s) = sequenceBits s := by
  rcases attemptFailed_cases (resyncAttemptFailed_spec s) with ⟨-, he⟩ | ⟨-, he⟩ <;> rw [he] <;> rfl

/-- Accepting a block toggles `nr` at most. -/
theorem ns_accept (m : Bool) (inf : ByteString) (s : State) : (accept m inf s).ns = s.ns := by
  rcases accept_cases m inf s with ⟨-, he⟩ | ⟨-, -, he⟩ | ⟨-, -, he⟩ <;> rw [he] <;> rfl

/-! ### Every step -/

/-- The rows that create, reset or destroy the sequence of a session: they write both bits. -/
def WritesBothBits (i : Instr) : Prop := i = .sResynchRespResyncing ∨ (∃ a b c, i = .openCmd a b c) ∨ i = .closeCmd

/-- The rows that may write `ns` (R205). -/
def WritesNs (i : Instr) : Prop :=
  (∃ n, i = .rAwaitAckAck n) ∨ (∃ b m inf, i = .iAwaitRespInSeq b m inf) ∨ WritesBothBits i

/-- The rows that may write `nr` (R205). -/
def WritesNr (i : Instr) : Prop :=
  (∃ b m inf, i = .iAwaitRespInSeq b m inf) ∨ (∃ b m inf, i = .iReceivingInSeq b m inf) ∨ WritesBothBits i

/-- What R205 allows the event `e` to do: it leaves each bit as it is or decodes to a row that may write it. -/
structure SequenceAllowed (s : State) (e : Event) (t : State) : Prop where
  ns : t.ns = s.ns ∨ ∃ i, decode (decodeCtx s) e = .instr i ∧ WritesNs i
  nr : t.nr = s.nr ∨ ∃ i, decode (decodeCtx s) e = .instr i ∧ WritesNr i

section

variable {s t : State} {e : Event}

theorem sequenceAllowed_of_same (h : sequenceBits t = sequenceBits s) : SequenceAllowed s e t :=
  have ⟨hns, hnr⟩ := sequenceBits_eq_iff.mp h
  ⟨.inl hns, .inl hnr⟩

theorem sequenceAllowed_of_both {i : Instr} (hd : decode (decodeCtx s) e = .instr i) (hi : WritesBothBits i) :
    SequenceAllowed s e t :=
  ⟨.inr ⟨i, hd, .inr (.inr hi)⟩, .inr ⟨i, hd, .inr (.inr hi)⟩⟩

end

/-- Every effect of an event is one that R205 allows. -/
theorem Effect.sequenceAllowed {s t : State} {e : Event} (he : Effect s e t) : SequenceAllowed s e t := by
  cases he with
  | acknowledged _ n _ _ _ hd => exact ⟨.inr ⟨_, hd, .inl ⟨n, rfl⟩⟩, .inl rfl⟩
  | firstAccepted _ b m inf _ _ _ hd =>
    exact ⟨.inr ⟨_, hd, .inr (.inl ⟨b, m, inf, rfl⟩)⟩, .inr ⟨_, hd, .inl ⟨b, m, inf, rfl⟩⟩⟩
  | nextAccepted _ b m inf _ _ _ hd => exact ⟨.inl (ns_accept m inf _), .inr ⟨_, hd, .inr (.inl ⟨b, m, inf, rfl⟩)⟩⟩
  | resynced _ _ _ _ hd => exact sequenceAllowed_of_both hd (.inl rfl)
  | opened _ _ cedc cnad cifs _ _ _ hd => exact sequenceAllowed_of_both hd (.inr (.inl ⟨cedc, cnad, cifs, rfl⟩))
  | closed _ _ _ hd => exact sequenceAllowed_of_both hd (.inr (.inr rfl))
  | recovered => exact sequenceAllowed_of_same (sequenceBits_recoverable _ _)
  | attemptFailed => exact sequenceAllowed_of_same (sequenceBits_resyncAttemptFailed _)
  | hostViolation | transportViolation | turnedAway | exchangeStarted | resyncStarted | cancelled | ignored | aborted
  | resent | waitGranted | ifsAdopted | cardAborted => exact sequenceAllowed_of_same rfl

/-- Settles O46: a step that waits keeps both bits, and an event that changes one decodes to a row that may write it. -/
theorem noSpeculativeToggling : Obligations.NoSpeculativeToggling := by
  intro s t hstep
  obtain ⟨-, ⟨-, rfl⟩ | ⟨e, rest, hinbox, heffect⟩⟩ := step_effect hstep
  · exact ⟨fun hne => absurd rfl hne, fun hne => absurd rfl hne⟩
  · obtain ⟨hns, hnr⟩ := heffect.sequenceAllowed
    refine ⟨fun hne => ?_, fun hne => ?_⟩
    · obtain ⟨i, hd, hi⟩ := hns.resolve_left hne
      exact ⟨e, rest, i, hinbox, hd, hi⟩
    · obtain ⟨i, hd, hi⟩ := hnr.resolve_left hne
      exact ⟨e, rest, i, hinbox, hd, hi⟩

end Sys2Proof.Machine
end

section
/-! Counted errors (`42_exchange.md` R184, R185, R209, R210): an error within the retry bound resends the last frame and leaves
the exchange where it was, so a channel that corrupts every reply is answered `RETRY_MAX` times and then given up. -/

namespace Sys2Proof.Machine

/-! ### One step -/

/-- The step from `s` to `t` counted an error and did nothing to the exchange but resend the last frame (R184, R209). -/
structure CountedAndResent (s t : State) : Prop where
  retry : t.retry = s.retry + 1
  st : t.st = s.st
  lastTx : t.lastTx = s.lastTx
  ns : t.ns = s.ns
  nr : t.nr = s.nr
  rxBuf : t.rxBuf = s.rxBuf
  txOff : t.txOff = s.txOff
  outbox : t.outbox = s.outbox ++ [.tx s.lastTx 1]

/-- A recoverable error after which the exchange goes on: past the bound the engine is in IDLE or RESYNCING. -/
theorem countedAndResent_of_recoverable {cause : BitVec 7} {s : State}
    (h : inExchange (recoverable cause s).st = true) : CountedAndResent s (recoverable cause s) := by
  rcases recovered_cases (recoverable_spec cause s) with ⟨-, he⟩ | ⟨-, -, he⟩ | ⟨-, -, he⟩ <;> rw [he] at h ⊢
  · exact ⟨rfl, rfl, rfl, rfl, rfl, rfl, rfl, rfl⟩
  · exact absurd h Bool.false_ne_true
  · exact absurd h Bool.false_ne_true

theorem retry_accept (m : Bool) (inf : ByteString) (s : State) : (accept m inf s).retry = s.retry := by
  rcases accept_cases m inf s with ⟨-, he⟩ | ⟨-, -, he⟩ | ⟨-, -, he⟩ <;> rw [he] <;> rfl

/-- Between two states of one exchange, only a counted error writes `retry`: the other rules that write it start or end an
exchange or a resynchronization (R29). -/
theorem Effect.retry_cases {s t : State} {e : Event} (he : Effect s e t) (hs : inExchange s.st = true)
    (ht : inExchange t.st = true) : t.retry = s.retry ∨ CountedAndResent s t := by
  cases he with
  | recovered => exact .inr { countedAndResent_of_recoverable ht with }
  | firstAccepted => exact .inl (retry_accept _ _ _)
  | nextAccepted => exact .inl (retry_accept _ _ _)
  | exchangeStarted _ _ hst => exact absurd hs (by simp [hst, inExchange])
  | resyncStarted _ _ hst => exact absurd hs (by simp [hst, inExchange])
  | resynced _ _ _ hst => exact absurd hs (by simp [hst, inExchange])
  | attemptFailed _ _ _ hst => exact absurd hs (by simp [hst, inExchange])
  | opened => exact absurd ht Bool.false_ne_true
  | closed => exact absurd ht Bool.false_ne_true
  | hostViolation | transportViolation | turnedAway | cancelled | ignored | aborted | acknowledged | resent | waitGranted
  | ifsAdopted | cardAborted => exact .inl rfl

/-- Settles O55, by the effects of an event. -/
theorem countedErrorResendsTheLastFrame : Obligations.CountedErrorResendsTheLastFrame := by
  intro s t hs hstep ht
  obtain ⟨-, ⟨-, rfl⟩ | ⟨e, rest, -, heffect⟩⟩ := step_effect hstep
  · exact .inl rfl
  · refine (heffect.retry_cases hs ht).imp_right fun h => ?_
    exact ⟨h.retry, h.st, h.lastTx, h.ns, h.nr, h.rxBuf, h.txOff, h.outbox⟩

/-! ### A channel that corrupts every reply -/

/-- The engine once a corrupt reply within the bound is answered by the last frame (R184, R190). -/
def corruptCounted (rest : List Event) (s : State) : State :=
  resent { received s rest with retry := s.retry + 1, lastCause := causeChecksum }

/-- The engine once a corrupt reply past the bound ends the exchange (R210). -/
def corruptAborted (rest : List Event) (s : State) : State :=
  aborted .eRetryExceeded 0x10 { received s rest with retry := s.retry + 1, lastCause := causeChecksum }

section

variable {s : State} {f : ByteString} {rest : List Event}

theorem AwaitsReplyInExchange.step_corrupt_within (h : AwaitsReplyInExchange s)
    (hinbox : s.inbox = .rx (.frame f) :: rest) (hf : CorruptFrame s.cfg.crc16Fn s.edc f)
    (hbound : s.retry.toNat + 1 ≤ s.cfg.retryMax) : step s = .next (corruptCounted rest s) := by
  obtain ⟨hwithin, -, -⟩ := recoverable_spec causeChecksum (received s rest)
  rw [h.step_corrupt hinbox hf, hwithin hbound]
  rfl

theorem AwaitsReplyInExchange.step_corrupt_past (h : AwaitsReplyInExchange s)
    (hinbox : s.inbox = .rx (.frame f) :: rest) (hf : CorruptFrame s.cfg.crc16Fn s.edc f)
    (hbound : s.cfg.retryMax < s.retry.toNat + 1) (hauto : s.cfg.autoResync = false) :
    step s = .next (corruptAborted rest s) := by
  obtain ⟨-, hpast, -⟩ := recoverable_spec causeChecksum (received s rest)
  rw [h.step_corrupt hinbox hf, hpast hbound hauto]
  rfl

end

theorem AwaitsReplyInExchange.corruptCounted {s : State} (h : AwaitsReplyInExchange s) (rest : List Event) :
    AwaitsReplyInExchange (corruptCounted rest s) :=
  ⟨h.no_fault, h.in_exchange, rfl⟩

/-- The outcome of a run that resends the last frame `k` times and then gives the exchange up. -/
structure RetriesExhausted (k : Nat) (s t : State) : Prop where
  idle : t.st = .idle
  ns_eq : t.ns = s.ns
  nr_eq : t.nr = s.nr
  outbox_eq : t.outbox = s.outbox ++ List.replicate k (.tx s.lastTx 1) ++ [.result .eRetryExceeded 0x10 []]

theorem retriesExhausted_corruptAborted (rest : List Event) (s : State) : RetriesExhausted 0 s (corruptAborted rest s) :=
  ⟨rfl, rfl, rfl, by simp [corruptAborted, aborted, received]⟩

/-- Giving up after a counted error is giving up one resend later. -/
theorem RetriesExhausted.succ {k : Nat} {rest : List Event} {s t : State}
    (h : RetriesExhausted k (corruptCounted rest s) t) : RetriesExhausted (k + 1) s t where
  idle := h.idle
  ns_eq := h.ns_eq
  nr_eq := h.nr_eq
  outbox_eq := by
    rw [h.outbox_eq]
    simp [corruptCounted, resent, received, List.replicate_succ]

/-- With `k` retransmissions left, `k` + 1 corrupt replies end the exchange. -/
theorem AwaitsReplyInExchange.runsTo_exhausted {k : Nat} {fs : List ByteString} (hlen : fs.length = k + 1) {s : State}
    (h : AwaitsReplyInExchange s) (hcfg : s.cfg.Legal) (hauto : s.cfg.autoResync = false)
    (hleft : s.retry.toNat + k = s.cfg.retryMax) (hcorrupt : ∀ f ∈ fs, CorruptFrame s.cfg.crc16Fn s.edc f)
    (hinbox : s.inbox = fs.map fun f => .rx (.frame f)) : ∃ t, RunsTo (k + 1) s t ∧ RetriesExhausted k s t := by
  induction k generalizing s fs with
  | zero =>
    obtain ⟨f, rfl⟩ := List.length_eq_one_iff.mp hlen
    have hstep := h.step_corrupt_past hinbox (hcorrupt f (by simp)) (by omega) hauto
    exact ⟨_, runsTo_succ hstep (runsTo_zero _), retriesExhausted_corruptAborted _ s⟩
  | succ k ih =>
    obtain ⟨f, fs, rfl⟩ := List.exists_cons_of_length_eq_add_one hlen
    have hstep := h.step_corrupt_within hinbox (hcorrupt f (by simp)) (by omega)
    have hretry : (s.retry + 1).toNat = s.retry.toNat + 1 := toNat_retry_succ hcfg (by omega)
    obtain ⟨t, hrun, hdone⟩ := ih (by simpa using hlen) (h.corruptCounted _) hcfg hauto
      (show (s.retry + 1).toNat + k = s.cfg.retryMax by omega) (fun g hg => hcorrupt g (by simp [hg])) rfl
    exact ⟨t, runsTo_succ hstep hrun, hdone.succ⟩

/-- Settles O59: from `retry` 0 all of `RETRY_MAX` is left. -/
theorem corruptChannelExhaustsTheRetryBound : Obligations.CorruptChannelExhaustsTheRetryBound := by
  intro s fs hfault hx hpending hretry hcfg hauto hlen hcorrupt hinbox
  have h : AwaitsReplyInExchange s := ⟨hfault, hx, hpending⟩
  obtain ⟨t, hrun, hdone⟩ := h.runsTo_exhausted hlen hcfg hauto (by simp [hretry])
    (fun f hf => (hcorrupt f hf).symm) hinbox
  exact ⟨t, hrun, hdone.idle, hdone.ns_eq, hdone.nr_eq, hdone.outbox_eq⟩

end Sys2Proof.Machine
end

section
/-! An APDU that goes out in I-blocks (`42_exchange.md` R181, R182, R191, R206 to R208). Each fragment is cut at the offset where
the one before it ended, so the run is an induction over the blocks still to come: what remains of the APDU is sent like an APDU
of its own, from the toggled sequence bit. -/

namespace Sys2Proof.Machine

/-! ### Cutting into fragments -/

/-- A string of at most `ifs` bytes, the empty one too, takes one block. -/
theorem fragmentCount_of_le {len ifs : Nat} (h : len ≤ ifs) : fragmentCount len ifs = 1 := by
  rcases Nat.eq_zero_or_pos ifs with rfl | hpos
  · simp [fragmentCount]
  · have hlt : (len + ifs - 1) / ifs < 2 := Nat.div_lt_of_lt_mul (by omega)
    rw [fragmentCount]
    omega

/-- A longer string takes one block more than what follows its first `ifs` bytes. -/
theorem fragmentCount_of_gt {len ifs : Nat} (hpos : 1 ≤ ifs) (h : ifs < len) :
    fragmentCount len ifs = fragmentCount (len - ifs) ifs + 1 := by
  have hdiv : (len + ifs - 1) / ifs = (len - ifs + ifs - 1) / ifs + 1 := by
    rw [← Nat.add_div_right _ hpos]
    congr 1
    omega
  have hone : 1 ≤ (len - ifs + ifs - 1) / ifs := (Nat.one_le_div_iff hpos).mpr (by omega)
  rw [fragmentCount, fragmentCount]
  omega

theorem one_le_fragmentCount (len ifs : Nat) : 1 ≤ fragmentCount len ifs := Nat.le_max_left _ _

theorem one_lt_fragmentCount_iff {len ifs : Nat} (hpos : 1 ≤ ifs) : 1 < fragmentCount len ifs ↔ ifs < len := by
  rcases Nat.lt_or_ge ifs len with h | h
  · have hrest := one_le_fragmentCount (len - ifs) ifs
    rw [fragmentCount_of_gt hpos h]
    omega
  · rw [fragmentCount_of_le h]
    omega

/-- The blocks carry at least as many bytes as there are (R206). -/
theorem length_le_fragmentCount_mul {len ifs : Nat} (hpos : 1 ≤ ifs) : len ≤ fragmentCount len ifs * ifs := by
  have hceil : len ≤ (len + ifs - 1) / ifs * ifs := by
    have := Nat.div_add_mod (len + ifs - 1) ifs
    have := Nat.mod_lt (len + ifs - 1) hpos
    rw [Nat.mul_comm]
    omega
  exact hceil.trans (Nat.mul_le_mul_right _ (Nat.le_max_right _ _))

/-- The `j`-th fragment of a string cut every `ifs` bytes. -/
def fragmentAt (ifs : Nat) (bytes : ByteString) (j : Nat) : ByteString := (bytes.drop (j * ifs)).take ifs

theorem fragmentAt_zero (ifs : Nat) (bytes : ByteString) : fragmentAt ifs bytes 0 = bytes.take ifs := by
  simp [fragmentAt]

theorem fragmentAt_succ (ifs : Nat) (bytes : ByteString) (j : Nat) :
    fragmentAt ifs bytes (j + 1) = fragmentAt ifs (bytes.drop ifs) j := by
  rw [fragmentAt, fragmentAt, List.drop_drop, Nat.add_one_mul, Nat.add_comm]

/-- The first `k` fragments are the first `k * ifs` bytes. -/
theorem flatten_fragments (ifs k : Nat) (bytes : ByteString) :
    ((List.range k).map (fragmentAt ifs bytes)).flatten = bytes.take (k * ifs) := by
  induction k generalizing bytes with
  | zero => simp
  | succ k ih =>
    have hrest : (List.range k).map (fragmentAt ifs bytes ∘ Nat.succ) =
        (List.range k).map (fragmentAt ifs (bytes.drop ifs)) :=
      List.map_congr_left fun j _ => fragmentAt_succ ifs bytes j
    rw [List.range_succ_eq_map, List.map_cons, List.map_map, hrest, List.flatten_cons, ih, fragmentAt_zero,
      Nat.add_one_mul, Nat.add_comm, List.take_add]

/-! ### One block -/

/-- The part of the APDU that is not yet sent when `SendFragment()` is called. -/
def unsent (s : State) : ByteString := s.txBuf.drop s.txOff.toNat

/-- The state in which `SendFragment()` is called: no fault stands in the way of the replies, `ifs` cuts at least one byte, and
the offset is inside an APDU that the 32 bits of `txOff` can address (R31, R182). -/
structure SendsFragments (s : State) : Prop where
  no_fault : s.fault = .none
  ifs_pos : 1 ≤ s.ifs.toNat
  offset_inside : s.txOff.toNat ≤ s.txBuf.length
  addressable : s.txBuf.length < 2 ^ 32

/-- The I-block that carries `inf`, the last of the APDU or chained to the next. -/
def fragmentMessage (s : State) (b m : Bool) (inf : ByteString) : Message :=
  .tx (mkFrame s.cfg.crc16Fn s.edc s.nad (infoByte b m) inf) 1

/-- The event of the R-block that acknowledges up to the block with bit `n`. -/
def ackEvent (s : State) (nad : Byte) (n : Bool) : Event := .rx (.frame (mkFrame s.cfg.crc16Fn s.edc nad (ackByte n) []))

theorem nextFragLen_eq (s : State) : nextFragLen s = min s.ifs.toNat (unsent s).length := by
  rw [nextFragLen, unsent, List.length_drop]

theorem moreFollows_eq {s : State} (h : s.txOff.toNat ≤ s.txBuf.length) :
    moreFollows s = decide (s.ifs.toNat < (unsent s).length) := by
  rw [moreFollows, nextFragLen, unsent, List.length_drop]
  exact decide_eq_decide.mpr (by omega)

theorem sendFragment_st (s : State) : (sendFragment s).st = if moreFollows s then .awaitAck else .awaitResp := rfl

/-- The fragment that goes out is the first `ifs` bytes of what is unsent, or all of it (R182). -/
theorem sendFragment_outbox (s : State) :
    (sendFragment s).outbox = s.outbox ++ [fragmentMessage s s.ns (moreFollows s) ((unsent s).take s.ifs.toNat)] := by
  have hcut : (unsent s).take (nextFragLen s) = (unsent s).take s.ifs.toNat := by
    rw [nextFragLen_eq, ← List.take_eq_take_min]
  rw [sendFragment_eq, ← hcut]
  rfl

/-- `ackByte` is the PCB that the decoder reads back as an error-free R-block (R99, R156). -/
theorem classify_ackByte (n : Bool) : classify (ackByte n) [] = .ready n 0 := by
  cases n <;> rfl

/-- In AWAIT_ACK, the acknowledgement of the block in flight sends the next fragment (R191). -/
theorem AwaitsReplyInExchange.step_ack {s : State} (h : AwaitsReplyInExchange s) (hst : s.st = .awaitAck) {nad : Byte}
    {rest : List Event} (hinbox : s.inbox = ackEvent s nad (!s.ns) :: rest) :
    step s = .next (ackAdvance (received s rest)) := by
  have hframe : decodeFrame s.cfg.crc16Fn s.edc (mkFrame s.cfg.crc16Fn s.edc nad (ackByte (!s.ns)) []) =
      .ok (.ready (!s.ns) 0) := by
    rw [decodeFrame_mkFrame _ _ _ _ _ (Nat.zero_le _), classify_ackByte]
  have hrow : selectRow (decodeCtx s) (.ready (!s.ns) 0) = some (.rAwaitAckAck (!s.ns)) := by
    rw [selectRow_awaitAck hst]
    simp [awaitAckRow, decodeCtx]
  obtain ⟨-, hruns⟩ := stepRunsTheDecodedInstruction s _ rest _ h.no_fault hinbox (decode_frame_eq_instr hframe hrow)
  exact hruns _ rfl h.read_pending (busy_of_inExchange h.in_exchange)

/-- The state in which the next fragment is sent, once the chained block of `s` is sent and acknowledged. -/
def fragmentAcknowledged (rest : List Event) (s : State) : State :=
  { received (sendFragment s) rest with
    ns := !s.ns
    txOff := s.txOff + (BitVec.ofNat 8 (nextFragLen s)).setWidth 32 }

theorem fragmentAcknowledged_outbox (rest : List Event) (s : State) :
    (fragmentAcknowledged rest s).outbox = (sendFragment s).outbox := rfl

/-- A chained block and its acknowledgement lead to the next call of `SendFragment()`. -/
theorem SendsFragments.step_ack {s : State} (h : SendsFragments s) (hmore : s.ifs.toNat < (unsent s).length) {nad : Byte}
    {rest : List Event} (hinbox : s.inbox = ackEvent s nad (!s.ns) :: rest) :
    step (sendFragment s) = .next (sendFragment (fragmentAcknowledged rest s)) := by
  have hst : (sendFragment s).st = .awaitAck := by simp [sendFragment_st, moreFollows_eq h.offset_inside, hmore]
  have hreads : AwaitsReplyInExchange (sendFragment s) := ⟨h.no_fault, by rw [hst]; rfl, rfl⟩
  exact hreads.step_ack hst hinbox

section

variable {s : State} (h : SendsFragments s) (hmore : s.ifs.toNat < (unsent s).length)

include h hmore

/-- The offset goes past the whole `ifs` bytes of a chained block. -/
theorem SendsFragments.toNat_txOff_next (rest : List Event) :
    (fragmentAcknowledged rest s).txOff.toNat = s.txOff.toNat + s.ifs.toNat := by
  have hlen : nextFragLen s = s.ifs.toNat := by rw [nextFragLen_eq, Nat.min_eq_left hmore.le]
  have hadd := h.addressable
  have hoff : (fragmentAcknowledged rest s).txOff = s.txOff + s.ifs.setWidth 32 := by
    simp [fragmentAcknowledged, hlen]
  rw [unsent, List.length_drop] at hmore
  rw [hoff, toNat_nextOffset (by omega)]

theorem SendsFragments.unsent_next (rest : List Event) :
    unsent (fragmentAcknowledged rest s) = (unsent s).drop s.ifs.toNat := by
  rw [unsent, h.toNat_txOff_next hmore rest, unsent, List.drop_drop]
  rfl

/-- What is unsent after a chained block takes one block less. -/
theorem SendsFragments.fragmentCount_next (rest : List Event) :
    fragmentCount (unsent s).length s.ifs.toNat =
      fragmentCount (unsent (fragmentAcknowledged rest s)).length s.ifs.toNat + 1 := by
  rw [fragmentCount_of_gt h.ifs_pos hmore, h.unsent_next hmore, List.length_drop]

theorem SendsFragments.next (rest : List Event) : SendsFragments (fragmentAcknowledged rest s) where
  no_fault := h.no_fault
  ifs_pos := h.ifs_pos
  offset_inside := by
    rw [h.toNat_txOff_next hmore rest]
    rw [unsent, List.length_drop] at hmore
    change s.txOff.toNat + s.ifs.toNat ≤ s.txBuf.length
    omega
  addressable := h.addressable

end

/-! ### All blocks -/

/-- The acknowledgements of `k` chained blocks, the first of which carries `ns`. -/
def ackEvents (s : State) (nad : Byte) (k : Nat) : List Event :=
  (List.range k).map fun j => ackEvent s nad (seqBit s.ns (j + 1))

/-- The `k` blocks of what is unsent: their bits alternate from `ns`, and all but the last are chained (R27, R207, R208). -/
def fragmentMessages (s : State) (k : Nat) : List Message :=
  (List.range k).map fun j =>
    fragmentMessage s (seqBit s.ns j) (decide (j + 1 < k)) (fragmentAt s.ifs.toNat (unsent s) j)

theorem ackEvents_succ (s : State) (nad : Byte) (k : Nat) :
    ackEvents s nad (k + 1) = ackEvent s nad (!s.ns) :: ackEvents { s with ns := !s.ns } nad k := by
  simp [ackEvents, List.range_succ_eq_map, seqBit_succ, ackEvent]

theorem fragmentMessages_one (s : State) :
    fragmentMessages s 1 = [fragmentMessage s s.ns false ((unsent s).take s.ifs.toNat)] := by
  simp [fragmentMessages, fragmentAt_zero]

/-- After a chained block, the rest is a message that starts with the toggled bit. -/
theorem SendsFragments.fragmentMessages_succ {s : State} (h : SendsFragments s)
    (hmore : s.ifs.toNat < (unsent s).length) (rest : List Event) (k : Nat) :
    fragmentMessages s (k + 2) = fragmentMessage s s.ns true ((unsent s).take s.ifs.toNat) ::
      fragmentMessages (fragmentAcknowledged rest s) (k + 1) := by
  rw [fragmentMessages, List.range_succ_eq_map, List.map_cons, List.map_map, seqBit_zero, fragmentAt_zero]
  refine congrArg₂ List.cons (by simp) (List.map_congr_left fun j _ => ?_)
  simp only [Function.comp_apply, Nat.succ_eq_add_one, seqBit_succ, fragmentAt_succ, h.unsent_next hmore rest,
    Nat.add_lt_add_iff_right]
  rfl

/-- With the acknowledgements of all chained blocks on offer, `SendFragment()` and they send all that is unsent. -/
theorem SendsFragments.runsTo_sent {nad : Byte} {k : Nat} {s : State} (h : SendsFragments s)
    (hcount : fragmentCount (unsent s).length s.ifs.toNat = k + 1) (hinbox : s.inbox = ackEvents s nad k) :
    ∃ t, RunsTo k (sendFragment s) t ∧ t.st = .awaitResp ∧ t.inbox = [] ∧
      t.outbox = s.outbox ++ fragmentMessages s (k + 1) := by
  induction k generalizing s with
  | zero =>
    have hlast : moreFollows s = false := by
      rw [moreFollows_eq h.offset_inside, decide_eq_false_iff_not, ← one_lt_fragmentCount_iff h.ifs_pos]
      omega
    refine ⟨_, runsTo_zero _, by simp [sendFragment_st, hlast], hinbox, ?_⟩
    rw [sendFragment_outbox, hlast, fragmentMessages_one]
  | succ k ih =>
    have hmore : s.ifs.toNat < (unsent s).length := (one_lt_fragmentCount_iff h.ifs_pos).mp (by omega)
    have hchained : moreFollows s = true := by rw [moreFollows_eq h.offset_inside, decide_eq_true hmore]
    rw [ackEvents_succ] at hinbox
    have hstep := h.step_ack hmore hinbox
    rw [h.fragmentCount_next hmore (ackEvents { s with ns := !s.ns } nad k)] at hcount
    obtain ⟨t, hrun, hst, hempty, hout⟩ := ih (h.next hmore _) (Nat.succ.inj hcount) rfl
    refine ⟨t, runsTo_succ hstep hrun, hst, hempty, ?_⟩
    rw [hout, fragmentAcknowledged_outbox, sendFragment_outbox, hchained, h.fragmentMessages_succ hmore, List.append_assoc]
    rfl

/-- An EXCHANGE that IDLE accepts, as a step (R285). -/
theorem step_exchange_idle {s : State} (hfault : s.fault = .none) (hst : s.st = .idle) {apdu : ByteString}
    (hl : apdu.length ≤ s.cfg.apduMax) {rest : List Event} (hinbox : s.inbox = .cmd 0x00000003 apdu :: rest) :
    step s = .next (startExchange apdu { s with inbox := rest }) := by
  have hd : decode (decodeCtx s) (.cmd 0x00000003 apdu) = .instr (.exchangeCmd apdu) :=
    decode_cmd_eq_instr.mpr rfl
  obtain ⟨hruns, -⟩ := stepRunsTheDecodedInstruction s _ rest _ hfault hinbox hd
  exact (hruns _ apdu rfl).trans (exec_exchangeCmd_idle (s := { s with inbox := rest }) hst hl)

/-- The call of `SendFragment()` that starts an exchange (R181). -/
def exchangeStarting (apdu : ByteString) (rest : List Event) (s : State) : State :=
  { s with inbox := rest, txBuf := apdu, txOff := 0, rxBuf := [], retry := 0, lastCause := 0x00 }

/-- Settles O57: the command calls `SendFragment()` with the whole APDU unsent, and the acknowledgements bring the rest. -/
theorem fragmentsCarryTheWholeApdu : Obligations.FragmentsCarryTheWholeApdu := by
  intro s apdu nad hfault hst hcfg hifs hl k frag hinbox
  have hwhole : ((List.range k).map frag).flatten = apdu := by
    rw [show frag = fragmentAt s.ifs.toNat apdu from rfl, flatten_fragments,
      List.take_of_length_le (length_le_fragmentCount_mul hifs)]
  obtain ⟨n, hn⟩ := Nat.exists_eq_add_of_le' (one_le_fragmentCount apdu.length s.ifs.toNat)
  have hk : k = n + 1 := hn
  rw [hk, Nat.add_sub_cancel] at hinbox
  obtain ⟨-, -, hmax, -⟩ := hcfg
  have hsends : SendsFragments (exchangeStarting apdu (ackEvents s nad n) s) :=
    { no_fault := hfault, ifs_pos := hifs, offset_inside := Nat.zero_le _, addressable := hl.trans_lt hmax }
  obtain ⟨t, hrun, hresp, hempty, hout⟩ := hsends.runsTo_sent (nad := nad) hn rfl
  rw [hk] at hwhole ⊢
  exact ⟨hwhole, t, runsTo_succ (step_exchange_idle hfault hst hl hinbox) hrun, hresp, hempty, hout⟩

end Sys2Proof.Machine
end

section
/-! The rows of an S-block received in an exchange (`43_supervisory.md` R240 to R249). A request's row reads its operand first:
a well-formed one runs the request's own procedure, an ill-formed one counts a protocol error, as every other S-block does. -/

namespace Sys2Proof.Machine

/-! ### Ill-formed operands -/

/-- R249: a WTX request is ill-formed when it does not carry one byte, or carries 0. -/
theorem wtxParam_eq_none {sinf : ByteString} : wtxParam sinf = none ↔ sinf.length ≠ 1 ∨ sinf = [0x00] := by
  match sinf with
  | [] => simp [wtxParam]
  | [_] => simp [wtxParam]
  | _ :: _ :: _ => simp [wtxParam]

/-- R249: an IFS request is ill-formed when it does not carry one byte, or carries 0 or 255. -/
theorem ifsParam_eq_none {sinf : ByteString} :
    ifsParam sinf = none ↔ sinf.length ≠ 1 ∨ sinf = [0x00] ∨ sinf = [0xFF] := by
  match sinf with
  | [] => simp [ifsParam]
  | [_] => simp [ifsParam, or_iff_not_imp_left]
  | _ :: _ :: _ => simp [ifsParam]

theorem abortWellFormed_eq_false {sinf : ByteString} : abortWellFormed sinf = false ↔ sinf.length ≠ 0 := by
  simp [abortWellFormed]

/-! ### The rows of the requests -/

section
variable {sinf : ByteString} {m v : Byte} (s : State)

theorem exec_sWtxReq_some (h : wtxParam sinf = some m) : exec (.sWtxReq sinf) s = .next (wtxRequest m s) := by
  simp [exec, execSWtxReq, h]

theorem exec_sWtxReq_none (h : wtxParam sinf = none) :
    exec (.sWtxReq sinf) s = .next (recoverable causeProtocol s) := by
  simp [exec, execSWtxReq, h]

theorem exec_sIfsReq_some (h : ifsParam sinf = some v) : exec (.sIfsReq sinf) s = .next (ifsRequest v s) := by
  simp [exec, execSIfsReq, h]

theorem exec_sIfsReq_none (h : ifsParam sinf = none) :
    exec (.sIfsReq sinf) s = .next (recoverable causeProtocol s) := by
  simp [exec, execSIfsReq, h]

theorem exec_sAbortReq_nil : exec (.sAbortReq []) s = .next (cardAbort s) := rfl

theorem exec_sAbortReq_illFormed (h : abortWellFormed sinf = false) :
    exec (.sAbortReq sinf) s = .next (recoverable causeProtocol s) := by
  simp [exec, execSAbortReq, h]

end

/-! ### The answers to well-formed requests -/

/-- The response to a WTX request has PCB 0xE3 and goes out with the granted multiplier (R101, R241). -/
theorem wtxRequest_eq (m : Byte) (s : State) :
    wtxRequest m s = { s with
      wtxMult := m
      rxPending := true
      outbox := s.outbox ++ [.tx (mkFrame s.cfg.crc16Fn s.edc s.nad 0xE3 [m]) m] } := rfl

/-- The response to an IFS request has PCB 0xE1 (R101, R243). -/
theorem ifsRequest_eq (v : Byte) (s : State) :
    ifsRequest v s = { s with
      ifs := v
      wtxMult := 1
      rxPending := true
      outbox := s.outbox ++ [.tx (mkFrame s.cfg.crc16Fn s.edc s.nad 0xE1 [v]) 1] } := rfl

/-- The response to an ABORT request has PCB 0xE2 and stands before the abort's result (R101, R245, R313). -/
theorem cardAbort_eq (s : State) :
    cardAbort s = aborted .eCardAbort 0x00
      { s with outbox := s.outbox ++ [.tx (mkFrame s.cfg.crc16Fn s.edc s.nad 0xE2 []) 0] } := rfl

/-- Settles O27: a nonzero byte is the multiplier the row grants. -/
theorem wtxRequestIsAnswered : Obligations.WtxRequestIsAnswered := by
  intro s m _ hm
  have hparam : wtxParam [m] = some m := wtxParam_eq_some.mpr ⟨rfl, by bv_omega⟩
  rw [exec_sWtxReq_some s hparam, wtxRequest_eq]

/-- Settles O28: a byte in 1..254 is the size the row adopts. -/
theorem ifsRequestIsAnswered : Obligations.IfsRequestIsAnswered := by
  intro s v _ hlo hhi
  have hparam : ifsParam [v] = some v := ifsParam_eq_some.mpr ⟨rfl, by bv_omega, by bv_omega⟩
  rw [exec_sIfsReq_some s hparam, ifsRequest_eq]

/-- Settles O29: the response and the abort's result are two messages, emitted in this order. -/
theorem abortRequestEndsTheExchange : Obligations.AbortRequestEndsTheExchange := by
  intro s _
  rw [exec_sAbortReq_nil, cardAbort_eq, aborted, List.append_assoc]
  rfl

/-! ### S-blocks that count as protocol errors -/

/-- Settles O30: neither the payload nor the type enters the rows' rule. -/
theorem unexpectedSBlockIsRecoverable : Obligations.UnexpectedSBlockIsRecoverable :=
  fun s _ _ =>
    have hcounted := recoverable_spec causeProtocol s
    ⟨⟨_, rfl, hcounted⟩, ⟨_, rfl, hcounted⟩, ⟨_, rfl, hcounted⟩, ⟨_, rfl, hcounted⟩, ⟨_, rfl, hcounted⟩,
      fun _ _ _ => ⟨_, rfl, hcounted⟩⟩

/-- Settles O31: each row's operand test fails on exactly the forms that R101 rules out. -/
theorem illFormedSBlockIsRecoverable : Obligations.IllFormedSBlockIsRecoverable := by
  intro s sinf _
  have hcounted := recoverable_spec causeProtocol s
  refine ⟨fun hwtx => ?_, fun hifs => ?_, fun habort => ?_⟩
  · exact ⟨_, exec_sWtxReq_none s (wtxParam_eq_none.mpr hwtx), hcounted⟩
  · exact ⟨_, exec_sIfsReq_none s (ifsParam_eq_none.mpr hifs), hcounted⟩
  · exact ⟨_, exec_sAbortReq_illFormed s (abortWellFormed_eq_false.mpr habort), hcounted⟩

end Sys2Proof.Machine
end

section
/-! The resynchronization (`44_resync.md` R262 to R266): the RESYNCH response with LEN 0 ends it, whatever else arrives is a
failed attempt, and the state it fails into is left only by the commands that create or destroy a session. -/

namespace Sys2Proof.Machine

/-! ### The two rows -/

/-- Settles O32: the two origins are the two results of R264. -/
theorem resyncResponseResetsTheSequence : Obligations.ResyncResponseResetsTheSequence := by
  intro s _
  have hrow : exec .sResynchRespResyncing s = .next (resyncDone s) := rfl
  rw [hrow, resyncDone_eq]
  cases s.origin <;> rfl

/-- The block does not enter the rule of ANY@RESYNCING (R265). -/
theorem exec_anyResyncing (b : Block) (s : State) : exec (.anyResyncing b) s = .next (resyncAttemptFailed s) := rfl

/-- Settles O33: the row runs `ResyncAttemptFailed`, which does what R265 and R266 say. -/
theorem otherBlockIsAFailedAttempt : Obligations.OtherBlockIsAFailedAttempt :=
  fun s b _ _ => ⟨_, exec_anyResyncing b s, resyncAttemptFailed_spec s⟩

/-! ### Every other event -/

/-- In RESYNCING an event other than the RESYNCH response decodes to ANY@RESYNCING or to no instruction at all (R262). -/
theorem decode_resyncing_of_other {c : DecodeCtx} {r : RxEvent} (hst : c.st = .resyncing)
    (hother : ∀ f, r = .frame f → decodeFrame c.crc16Fn c.edc f ≠ .ok (.supervisory true 0 [])) :
    (∃ b, decode c (.rx r) = .instr (.anyResyncing b)) ∨ ∃ j, decode c (.rx r) = .rejected j := by
  cases hd : decode c (.rx r) with
  | rejected j => exact .inr ⟨j, rfl⟩
  | instr i =>
    obtain ⟨f, b, rfl, hf, hrow⟩ := decode_rx_instr hd
    have hb : b ≠ .supervisory true 0 [] := fun hb => hother f rfl (hb ▸ hf)
    rw [selectRow_resyncing hst, resyncingRow, if_neg hb] at hrow
    cases hrow
    exact .inl ⟨b, rfl⟩

/-- In RESYNCING every receive error is a failed attempt (R262), where R187 to R190 would abort or count it. -/
theorem onReject_resyncing {s : State} {r : RxEvent} {j : Reject} (hst : s.st = .resyncing)
    (hd : decode (decodeCtx s) (.rx r) = .rejected j) : onReject j s = resyncAttemptFailed s := by
  have hrule : ∀ rule, unlessResyncing rule s = resyncAttemptFailed s := fun _ => if_pos hst
  have hbusy : busy (decodeCtx s).st = true := congrArg busy hst
  rcases decode_rx_rejected hbusy hd with ⟨-, rfl⟩ | ⟨-, rfl⟩ | ⟨_, -, -, rfl⟩ | ⟨_, -, -, rfl⟩ | ⟨_, -, -, rfl⟩ <;>
    exact hrule _

/-- Settles O34: whether the event is a block or no instruction at all, its rule after the prologue is
`ResyncAttemptFailed`. -/
theorem onlyTheResyncResponseCounts : Obligations.OnlyTheResyncResponseCounts := by
  intro s r rest hfault hinbox hpending hst hother
  refine ⟨resyncAttemptFailed (received s rest), ?_, resyncAttemptFailed_spec _⟩
  have hbusy : busy s.st = true := congrArg busy hst
  rcases decode_resyncing_of_other (c := decodeCtx s) hst hother with ⟨b, hd⟩ | ⟨j, hd⟩
  · have ⟨_, hruns⟩ := stepRunsTheDecodedInstruction s (.rx r) rest _ hfault hinbox hd
    rw [hruns r rfl hpending hbusy, exec_anyResyncing]
  · have hawaits : awaitsReply { s with inbox := rest } = true := by simp [awaitsReply, hpending, hbusy]
    rw [step_eq hfault hinbox, handleEvent_rx_rejected hawaits hd, rxPrologue_taken,
      onReject_resyncing (s := received s rest) hst hd]

/-! ### DEAD -/

/-- The event `e` leads from DEAD to `t` as OPEN (R282) or as CLOSE (R284). -/
def LeavesDead (e : Event) (t : State) : Prop :=
  ∃ w apdu, e = .cmd w apdu ∧
    ((t.st = .idle ∧ ∃ a b c, decodeCommand false w apdu = some (.openCmd a b c)) ∨ (t.st = .closed ∧ w = 0x00000002))

/-- DEAD awaits no reply and starts no exchange, so of all effects only those of OPEN and CLOSE lead out of it. -/
theorem Effect.leavesDead {s t : State} {e : Event} (he : Effect s e t) (hst : s.st = .dead) (ht : t.st ≠ .dead) :
    LeavesDead e t := by
  have hbusy : busy s.st = false := congrArg busy hst
  have hunawaited : ¬ awaitsReply s = true := fun ha => by simp [busy_of_awaitsReply ha] at hbusy
  cases he with
  | opened w apdu cedc cnad cifs hcmd _ _ hd =>
    subst hcmd
    have hword := decode_cmd_eq_instr.mp hd
    rw [show busy (decodeCtx s).st = false from hbusy] at hword
    exact ⟨w, apdu, rfl, .inl ⟨rfl, cedc, cnad, cifs, hword⟩⟩
  | closed apdu hcmd => exact ⟨_, apdu, hcmd, .inr ⟨rfl, rfl⟩⟩
  | exchangeStarted _ _ hidle | resyncStarted _ _ hidle => simp [hst] at hidle
  | cancelled _ _ hb => simp [hbusy] at hb
  | hostViolation | transportViolation | turnedAway | ignored => exact absurd hst ht
  | aborted | recovered | acknowledged | firstAccepted | nextAccepted | resent | waitGranted | ifsAdopted | cardAborted
  | resynced | attemptFailed => exact absurd ‹awaitsReply s = true› hunawaited

/-- Settles O56: a step that waits stays in DEAD, and an event that leads out of it is one of the two commands. -/
theorem deadIsLeftOnlyByOpenOrClose : Obligations.DeadIsLeftOnlyByOpenOrClose := by
  intro s t hst hstep ht
  obtain ⟨-, ⟨-, rfl⟩ | ⟨e, rest, hinbox, heffect⟩⟩ := step_effect hstep
  · exact absurd hst ht
  · obtain ⟨w, apdu, rfl, hcmd⟩ := heffect.leavesDead hst ht
    exact ⟨w, apdu, rest, hinbox, hcmd⟩

end Sys2Proof.Machine
end

section
/-! The rows of a host command word (`45_host_commands.md` R282 to R290): a command other than CANCEL runs its procedure when
the engine is not busy, and a command that is turned away only emits its result. -/

namespace Sys2Proof.Machine

/-! ### The rows while not busy -/

section
variable {s : State}

theorem unlessBusy_of_not_busy (hb : busy s.st = false) (rule : State → State) : unlessBusy rule s = rule s := by
  simp [unlessBusy_eq, hb]

theorem exec_openCmd (hb : busy s.st = false) (cedc : Bool) (cnad cifs : Byte) :
    exec (.openCmd cedc cnad cifs) s = .next (openSession cedc cnad cifs s) :=
  congrArg Host.Outcome.next (unlessBusy_of_not_busy hb _)

theorem exec_closeCmd (hb : busy s.st = false) : exec .closeCmd s = .next (closeSession s) :=
  congrArg Host.Outcome.next (unlessBusy_of_not_busy hb _)

theorem exec_exchangeCmd (hb : busy s.st = false) (apdu : ByteString) :
    exec (.exchangeCmd apdu) s = .next (exchange apdu s) :=
  congrArg Host.Outcome.next (unlessBusy_of_not_busy hb _)

theorem exec_resyncCmd (hb : busy s.st = false) : exec .resyncCmd s = .next (resync s) :=
  congrArg Host.Outcome.next (unlessBusy_of_not_busy hb _)

/-! ### Commands that need a session -/

theorem exchange_closed (hst : s.st = .closed) (apdu : ByteString) :
    exchange apdu s = emit (.result .eNotOpen 0x00 []) s := by
  simp [exchange, hst]

theorem exchange_dead (hst : s.st = .dead) (apdu : ByteString) :
    exchange apdu s = emit (.result .eDead 0x00 []) s := by
  simp [exchange, hst]

theorem exchange_too_long (hst : s.st = .idle) {apdu : ByteString} (hl : s.cfg.apduMax < apdu.length) :
    exchange apdu s = emit (.result .eApduTooLong 0x00 []) s := by
  simp [exchange, hst, hl]

theorem resync_closed (hst : s.st = .closed) : resync s = emit (.result .eNotOpen 0x00 []) s := by
  simp [resync, hst]

theorem resync_dead (hst : s.st = .dead) : resync s = emit (.result .eDead 0x00 []) s := by
  simp [resync, hst]

theorem resync_idle (hst : s.st = .idle) : resync s = resyncStarted .host s := by
  simp [resync, hst, startResync_eq]

end

/-- CANCEL while busy: the withdrawal of the read stands before the abort's result (R288, R313). -/
theorem hostCancel_eq (s : State) :
    hostCancel s = { s with
      txBuf := []
      txOff := 0
      rxBuf := []
      rxPending := false
      st := .idle
      outbox := s.outbox ++ [.rdCancel, .result .eCancelled 0x00 []] } := by
  have hmessages : s.outbox ++ [.rdCancel] ++ [.result .eCancelled 0x00 []] =
      s.outbox ++ [.rdCancel, .result .eCancelled 0x00 []] := List.append_assoc _ _ _
  rw [← hmessages]
  rfl

/-! ### The statements -/

/-- Settles O35: the two outcomes of `Open`, told apart by the range of `cifs`; 0 and 255 are outside it. -/
theorem openCreatesTheSession : Obligations.OpenCreatesTheSession := by
  intro s cedc cnad cifs hb
  rw [exec_openCmd hb]
  rcases openSession_cases cedc cnad cifs s with ⟨hlo, hhi, he⟩ | ⟨hout, he⟩ <;> rw [he]
  · refine ⟨fun _ _ => rfl, ?_⟩
    rintro (rfl | rfl)
    · exact absurd hlo (by decide)
    · exact absurd hhi (by decide)
  · exact ⟨fun hlo hhi => absurd ⟨hlo, hhi⟩ hout, fun _ => rfl⟩

/-- Settles O36: the registers that `Close` draws free values for are none of those named. -/
theorem closeEndsTheSession : Obligations.CloseEndsTheSession :=
  fun s hb => ⟨closeSession s, exec_closeCmd hb, rfl, rfl, rfl, rfl, rfl, rfl, rfl⟩

/-- Settles O38: in each of the three cases `Exchange` only emits its result. -/
theorem exchangeIsRejected : Obligations.ExchangeIsRejected := by
  intro s apdu
  refine ⟨fun hst => ?_, fun hst => ?_, fun hst hl => ?_⟩
  · rw [exec_exchangeCmd (congrArg busy hst), exchange_closed hst, emit]
  · rw [exec_exchangeCmd (congrArg busy hst), exchange_dead hst, emit]
  · rw [exec_exchangeCmd (congrArg busy hst), exchange_too_long hst hl, emit]

/-- Settles O39: `Resync` starts the resynchronization in IDLE and otherwise only emits its result. -/
theorem resyncSendsTheRequest : Obligations.ResyncSendsTheRequest := by
  intro s
  refine ⟨fun hst => ?_, fun hst => ?_, fun hst => ?_⟩
  · rw [exec_resyncCmd (congrArg busy hst), resync_idle hst]
  · rw [exec_resyncCmd (congrArg busy hst), resync_closed hst, emit]
  · rw [exec_resyncCmd (congrArg busy hst), resync_dead hst, emit]

/-- Settles O40: the row runs `HostCancel`, which writes neither `ns` nor `nr`. -/
theorem cancelEndsTheCommand : Obligations.CancelEndsTheCommand :=
  fun s _ => congrArg Host.Outcome.next (hostCancel_eq s)

/-- Settles O41: the row answers the state it is given. -/
theorem cancelWhileNotBusyDoesNothing : Obligations.CancelWhileNotBusyDoesNothing := fun _ _ => rfl

end Sys2Proof.Machine
end

section
/-! The result of a command (`45_host_commands.md` R291, R292, `60_exceptions.md` R316). A command lasts while the engine is
busy: the rule that leaves the engine busy only sends a frame, and the rule that ends the command emits its one result. -/

namespace Sys2Proof.Machine

/-- The rule that led from `s` to `t` emitted one result if it left the engine not busy, and none if it left it busy. -/
def AnswersOnce (s t : State) : Prop :=
  ∃ ms, t.outbox = s.outbox ++ ms ∧ ms.countP isResult = if busy t.st then 0 else 1

/-- The rule that led from `s` to `t` put nothing on the transport transmit port. -/
def OnlyResults (s t : State) : Prop := ∃ ms, t.outbox = s.outbox ++ ms ∧ ms.all isResult = true

/-- The event is a CANCEL with no command to cancel (R289). -/
def CancelsNothing (s : State) (e : Event) : Prop := busy s.st = false ∧ ∃ apdu, e = .cmd 0x00000004 apdu

/-! ### The messages of a rule -/

section
variable {s t : State}

theorem answersOnce_of_result {code : Status} {detail : Byte} {data : ByteString} (hb : busy t.st = false)
    (ho : t.outbox = s.outbox ++ [.result code detail data]) : AnswersOnce s t :=
  ⟨_, ho, by rw [hb]; rfl⟩

theorem answersOnce_of_frame {f : ByteString} {m : Byte} (hb : busy t.st = true)
    (ho : t.outbox = s.outbox ++ [.tx f m]) : AnswersOnce s t :=
  ⟨_, ho, by rw [hb]; rfl⟩

theorem onlyResults_of_result {code : Status} {detail : Byte} {data : ByteString}
    (ho : t.outbox = s.outbox ++ [.result code detail data]) : OnlyResults s t :=
  ⟨_, ho, rfl⟩

theorem onlyResults_of_silence (ho : t.outbox = s.outbox) : OnlyResults s t :=
  ⟨[], by rw [ho, List.append_nil], rfl⟩

end

/-! ### The shared procedures -/

/-- After a fragment the engine awaits an acknowledgement or the response (R182). -/
theorem busy_sendFragment (s : State) : busy (sendFragment s).st = true := by
  rw [sendFragment_st]
  split <;> rfl

theorem answersOnce_sendFragment (s : State) : AnswersOnce s (sendFragment s) :=
  answersOnce_of_frame (busy_sendFragment s) rfl

/-- A retransmission goes on with the command it found (R184). -/
theorem answersOnce_resent {s : State} (hb : busy s.st = true) : AnswersOnce s (resent s) :=
  answersOnce_of_frame hb rfl

theorem answersOnce_aborted (code : Status) (detail : Byte) (s : State) : AnswersOnce s (aborted code detail s) :=
  answersOnce_of_result rfl rfl

theorem answersOnce_resyncStarted (o : Origin) (s : State) : AnswersOnce s (resyncStarted o s) :=
  answersOnce_of_frame rfl rfl

theorem answersOnce_recoverable {s : State} (hb : busy s.st = true) (cause : BitVec 7) :
    AnswersOnce s (recoverable cause s) := by
  rcases recovered_cases (recoverable_spec cause s) with ⟨-, he⟩ | ⟨-, -, he⟩ | ⟨-, -, he⟩ <;> rw [he]
  · exact answersOnce_resent (s := { s with retry := s.retry + 1, lastCause := cause }) hb
  · exact answersOnce_aborted _ _ _
  · exact answersOnce_resyncStarted _ _

theorem answersOnce_accept (m : Bool) (inf : ByteString) (s : State) : AnswersOnce s (accept m inf s) := by
  rcases accept_cases m inf s with ⟨-, he⟩ | ⟨-, -, he⟩ | ⟨-, -, he⟩ <;> rw [he]
  · exact answersOnce_aborted _ _ _
  · exact answersOnce_of_frame rfl rfl
  · exact answersOnce_of_result rfl rfl

theorem answersOnce_resyncAttemptFailed {s : State} (hb : busy s.st = true) : AnswersOnce s (resyncAttemptFailed s) := by
  rcases attemptFailed_cases (resyncAttemptFailed_spec s) with ⟨-, he⟩ | ⟨-, he⟩ <;> rw [he]
  · exact answersOnce_resent (s := { s with retry := s.retry + 1 }) hb
  · exact answersOnce_of_result rfl rfl

/-- Either origin has one result (R264). -/
theorem answersOnce_resyncDone (s : State) : AnswersOnce s (resyncDone s) := by
  rw [resyncDone_eq]
  refine ⟨_, rfl, ?_⟩
  cases s.origin <;> rfl

theorem answersOnce_hostCancel (s : State) : AnswersOnce s (hostCancel s) :=
  ⟨[.rdCancel, .result .eCancelled 0x00 []], by rw [hostCancel_eq], rfl⟩

/-- The response to the card's ABORT request is a frame, and only the abort's result answers the host (R245). -/
theorem answersOnce_cardAbort (s : State) : AnswersOnce s (cardAbort s) :=
  ⟨[.tx _ 0, .result .eCardAbort 0x00 []], List.append_assoc _ _ _, rfl⟩

/-! ### Every step -/

/-- Every effect but a contract violation and a CANCEL of nothing answers the command once, when it ends it. -/
theorem Effect.answersOnce {s t : State} {e : Event} (he : Effect s e t) (hfault : t.fault = .none)
    (hcancel : ¬ CancelsNothing s e) : AnswersOnce s t := by
  have hbusy : awaitsReply s = true → busy s.st = true := busy_of_awaitsReply
  cases he with
  | hostViolation | transportViolation => simp at hfault
  | ignored apdu he hb => exact absurd ⟨hb, apdu, he⟩ hcancel
  | turnedAway _ _ _ _ hb => exact answersOnce_of_result hb rfl
  | opened | closed | aborted => exact answersOnce_of_result rfl rfl
  | exchangeStarted | acknowledged => exact answersOnce_sendFragment _
  | resyncStarted => exact answersOnce_resyncStarted _ _
  | cancelled => exact answersOnce_hostCancel s
  | recovered _ cause _ ha => exact answersOnce_recoverable (s := rxPrologue s) (hbusy ha) cause
  | firstAccepted _ _ m inf => exact answersOnce_accept m inf _
  | nextAccepted _ _ m inf => exact answersOnce_accept m inf _
  | resent _ _ ha => exact answersOnce_resent (s := rxPrologue s) (hbusy ha)
  | waitGranted _ _ _ ha | ifsAdopted _ _ _ ha => exact answersOnce_of_frame (hbusy ha) rfl
  | cardAborted => exact answersOnce_cardAbort _
  | resynced => exact answersOnce_resyncDone _
  | attemptFailed _ _ ha => exact answersOnce_resyncAttemptFailed (s := rxPrologue s) (hbusy ha)

/-- A CANCEL while not busy is decoded to the row that changes nothing (R289). -/
theorem handleEvent_cancelsNothing {s : State} {e : Event} (h : CancelsNothing s e) : handleEvent e s = .next s := by
  obtain ⟨hb, apdu, rfl⟩ := h
  exact handleEvent_cmd_instr (i := .cancelNotBusy) (by rw [hb]; rfl)

/-- Settles O48: a CANCEL of nothing emits nothing, and every other event without a fault answers once. -/
theorem oneResultPerCommand : Obligations.OneResultPerCommand := by
  intro s t e rest hinbox hstep hfault
  have hhandle := step_eq (step_cases hstep).1 hinbox ▸ hstep
  by_cases hcancel : CancelsNothing s e
  · cases (handleEvent_cancelsNothing (s := { s with inbox := rest }) hcancel).symm.trans hhandle
    exact ⟨[], (List.append_nil _).symm, fun _ => rfl, fun _ hother => absurd hcancel hother⟩
  · obtain ⟨ms, ho, hcount⟩ := (handleEvent_effect hhandle).answersOnce hfault hcancel
    refine ⟨ms, ho, ?_, fun hb _ => by rw [hcount, hb]; rfl⟩
    rintro (hb | hnothing)
    · rw [hcount, hb]
      rfl
    · exact absurd hnothing hcancel

/-- Between two states that are not busy no reply was awaited and no exchange or resynchronization starts, so only a result
can have been emitted. -/
theorem Effect.onlyResults {s t : State} {e : Event} (he : Effect s e t) (hs : busy s.st = false)
    (ht : busy t.st = false) : OnlyResults s t := by
  have hunawaited : ¬ awaitsReply s = true := fun ha => by simp [busy_of_awaitsReply ha] at hs
  cases he with
  | hostViolation | transportViolation | ignored => exact onlyResults_of_silence rfl
  | turnedAway | opened | closed => exact onlyResults_of_result rfl
  | exchangeStarted => exact absurd ht (by simp [startExchange, busy_sendFragment])
  | resyncStarted => exact absurd ht (by simp [busy])
  | cancelled _ _ hb => simp [hs] at hb
  | aborted | recovered | acknowledged | firstAccepted | nextAccepted | resent | waitGranted | ifsAdopted | cardAborted
  | resynced | attemptFailed => exact absurd ‹awaitsReply s = true› hunawaited

/-- Settles O51: a step that waits emits nothing, and an event handled between two states that are not busy emits at most a
result. -/
theorem idleCommandsSendNothing : Obligations.IdleCommandsSendNothing := by
  intro s t hs hstep ht
  obtain ⟨-, ⟨-, rfl⟩ | ⟨e, rest, -, heffect⟩⟩ := step_effect hstep
  · exact onlyResults_of_silence rfl
  · exact heffect.onlyResults hs ht

end Sys2Proof.Machine
end

section
/-! The model faults (`60_exceptions.md` R317 to R319). A command and a receive event each have one contract with the engine:
no command but CANCEL while it is busy, and no receive event that it does not await. Only a step that finds one of the two
broken records a fault, and a step that finds a fault recorded stops. -/

namespace Sys2Proof.Machine

/-! ### The stop -/

/-- A step that finds a violation recorded stops with it (R317, log 7). -/
theorem step_faulted {s : State} {f : Fault} (h : haltReason s.fault = some f) : step s = .fault f := by
  simp [step, stepEvent, h]

/-- Settles O3: each of the two violations has the fault outcome of its name. -/
theorem faultedEngineTakesNoStep : Obligations.FaultedEngineTakesNoStep :=
  fun _ => ⟨fun h => step_faulted (by rw [h]; rfl), fun h => step_faulted (by rw [h]; rfl)⟩

/-! ### A command while busy -/

theorem unlessBusy_of_busy {s : State} (hb : busy s.st = true) (rule : State → State) :
    unlessBusy rule s = raiseFault .hostViolation s := by
  rw [unlessBusy_eq, if_pos hb]

/-- The row of every command word but CANCEL's has the guard of R281. -/
theorem exec_command_of_busy {s : State} {w : CommandWord} {apdu : ByteString} {i : Instr} (hb : busy s.st = true)
    (hw : w ≠ 0x00000004) (hd : decodeCommand (busy s.st) w apdu = some i) :
    exec i s = .next (raiseFault .hostViolation s) := by
  have hguard : ∀ rule, (.next (unlessBusy rule s) : Host.Outcome State Fault Refusal) =
      .next (raiseFault .hostViolation s) :=
    fun rule => congrArg Host.Outcome.next (unlessBusy_of_busy hb rule)
  rcases decodeCommand_cases hd with ⟨_, _, _, rfl, -⟩ | ⟨rfl, -⟩ | ⟨rfl, -⟩ | ⟨-, hcancel, -⟩ | ⟨-, hcancel, -⟩ | ⟨rfl, -⟩
  · exact hguard _
  · exact hguard _
  · exact hguard _
  · exact absurd hcancel hw
  · exact absurd hcancel hw
  · exact hguard _

/-- A command word other than CANCEL's breaks the host's contract while busy, whether or not it is well-formed (R318, R109). -/
theorem handleEvent_cmd_of_busy {s : State} {w : CommandWord} (hb : busy s.st = true) (hw : w ≠ 0x00000004)
    (apdu : ByteString) : handleEvent (.cmd w apdu) s = .next (raiseFault .hostViolation s) := by
  cases hd : decodeCommand (busy s.st) w apdu with
  | some i => rw [handleEvent_cmd_instr hd, exec_command_of_busy hb hw hd]
  | none => rw [handleEvent_cmd_bad hd, badCommand, unlessBusy_of_busy hb]

/-- Settles O4: the step handles the command, and handling it only raises the fault. -/
theorem commandWhileBusyIsAHostViolation : Obligations.CommandWhileBusyIsAHostViolation :=
  fun s _ apdu rest hfault hinbox hb hw =>
    (step_eq hfault hinbox).trans (handleEvent_cmd_of_busy (s := { s with inbox := rest }) hb hw apdu)

/-! ### A receive event that no read awaits -/

theorem awaitsReply_eq_false_iff {s : State} : awaitsReply s = false ↔ s.rxPending = false ∨ busy s.st = false :=
  Bool.and_eq_false_iff

/-- Settles O5: in both cases the engine awaits no reply (log 8), and handling the event only raises the fault. -/
theorem unawaitedReplyIsATransportViolation : Obligations.UnawaitedReplyIsATransportViolation :=
  fun s r rest hfault hinbox hunawaited =>
    (step_eq hfault hinbox).trans
      (handleEvent_rx_unawaited (s := { s with inbox := rest }) r (awaitsReply_eq_false_iff.mpr hunawaited))

/-! ### No other event raises a fault -/

theorem fault_recoverable (cause : BitVec 7) (s : State) : (recoverable cause s).fault = s.fault := by
  rcases recovered_cases (recoverable_spec cause s) with ⟨-, he⟩ | ⟨-, -, he⟩ | ⟨-, -, he⟩ <;>
    exact (congrArg State.fault he :)

theorem fault_accept (m : Bool) (inf : ByteString) (s : State) : (accept m inf s).fault = s.fault := by
  rcases accept_cases m inf s with ⟨-, he⟩ | ⟨-, -, he⟩ | ⟨-, -, he⟩ <;>
    exact (congrArg State.fault he :)

theorem fault_resyncAttemptFailed (s : State) : (resyncAttemptFailed s).fault = s.fault := by
  rcases attemptFailed_cases (resyncAttemptFailed_spec s) with ⟨-, he⟩ | ⟨-, he⟩ <;>
    exact (congrArg State.fault he :)

theorem fault_resyncDone (s : State) : (resyncDone s).fault = s.fault :=
  (congrArg State.fault (resyncDone_eq s) :)

/-- The event `e` broke one of the two contracts in `s`, and the rule only recorded that (R318, R319). -/
def ContractViolated (s : State) (e : Event) (t : State) : Prop :=
  (∃ w apdu, e = .cmd w apdu ∧ busy s.st = true ∧ w ≠ 0x00000004 ∧ t = raiseFault .hostViolation s) ∨
  (∃ r, e = .rx r ∧ awaitsReply s = false ∧ t = raiseFault .transportViolation s)

/-- Of all effects of an event only the two violations write the fault register. -/
theorem Effect.fault_cases {s t : State} {e : Event} (he : Effect s e t) :
    t.fault = s.fault ∨ ContractViolated s e t := by
  cases he with
  | hostViolation w apdu he hb hw => exact .inr (.inl ⟨w, apdu, he, hb, hw, rfl⟩)
  | transportViolation r he ha => exact .inr (.inr ⟨r, he, ha, rfl⟩)
  | turnedAway | opened | closed | exchangeStarted | resyncStarted | cancelled | ignored => exact .inl rfl
  | aborted | acknowledged | resent | waitGranted | ifsAdopted | cardAborted => exact .inl rfl
  | recovered _ cause => exact .inl (fault_recoverable cause _)
  | firstAccepted _ _ m inf | nextAccepted _ _ m inf => exact .inl (fault_accept m inf _)
  | resynced => exact .inl (fault_resyncDone _)
  | attemptFailed => exact .inl (fault_resyncAttemptFailed _)

/-- Settles O6: the step found no fault recorded, so one that records a fault did not keep the register, and its event broke
one of the two contracts. -/
theorem faultsMarkOnlyContractViolations : Obligations.FaultsMarkOnlyContractViolations := by
  intro s t hstep hfault
  obtain ⟨hnone, ⟨-, rfl⟩ | ⟨e, rest, hinbox, heffect⟩⟩ := step_effect hstep
  · exact absurd hnone hfault
  · rcases heffect.fault_cases with hkept | ⟨w, apdu, rfl, hb, hw, rfl⟩ | ⟨r, rfl, hunawaited, rfl⟩
    · exact absurd (hkept.trans hnone) hfault
    · exact .inl ⟨w, apdu, rest, hinbox, hb, hw, rfl⟩
    · exact .inr ⟨r, rest, hinbox, awaitsReply_eq_false_iff.mp hunawaited, rfl⟩

end Sys2Proof.Machine
end

section
/-! The data of a result (`60_exceptions.md` R314, `30_encoding.md` R108, `20_memory.md` R67). `Complete` is the one procedure
that hands the response buffer to the host; every other result has no data. -/

namespace Sys2Proof.Machine

/-- No result among the messages of the rule that led from `s` to `t` has data. -/
def ReturnsNoData (s t : State) : Prop :=
  ∃ ms, t.outbox = s.outbox ++ ms ∧ ∀ code detail data, .result code detail data ∈ ms → data = []

/-- The rule that led from `s` to `t` ended the command with an OK, which may have data (R202). -/
def Completes (s t : State) : Prop := t.st = .idle ∧ ∃ data, t.outbox = s.outbox ++ [.result .ok 0x00 data]

/-! ### The messages of a rule -/

section
variable {s t : State}

theorem returnsNoData_of_result {code : Status} {detail : Byte} (ho : t.outbox = s.outbox ++ [.result code detail []]) :
    ReturnsNoData s t :=
  ⟨_, ho, by simp⟩

theorem returnsNoData_of_frame {f : ByteString} {m : Byte} (ho : t.outbox = s.outbox ++ [.tx f m]) : ReturnsNoData s t :=
  ⟨_, ho, by simp⟩

theorem returnsNoData_of_silence (ho : t.outbox = s.outbox) : ReturnsNoData s t :=
  ⟨[], by rw [ho, List.append_nil], by simp⟩

end

/-! ### The shared procedures -/

theorem returnsNoData_recoverable (cause : BitVec 7) (s : State) : ReturnsNoData s (recoverable cause s) := by
  rcases recovered_cases (recoverable_spec cause s) with ⟨-, he⟩ | ⟨-, -, he⟩ | ⟨-, -, he⟩ <;> rw [he]
  · exact returnsNoData_of_frame rfl
  · exact returnsNoData_of_result rfl
  · exact returnsNoData_of_frame rfl

theorem returnsNoData_resyncAttemptFailed (s : State) : ReturnsNoData s (resyncAttemptFailed s) := by
  rcases attemptFailed_cases (resyncAttemptFailed_spec s) with ⟨-, he⟩ | ⟨-, he⟩ <;> rw [he]
  · exact returnsNoData_of_frame rfl
  · exact returnsNoData_of_result rfl

/-- The OK of a resynchronization has no data either (R264). -/
theorem returnsNoData_resyncDone (s : State) : ReturnsNoData s (resyncDone s) := by
  rw [resyncDone_eq]
  refine ⟨_, rfl, ?_⟩
  cases s.origin <;> simp

theorem returnsNoData_hostCancel (s : State) : ReturnsNoData s (hostCancel s) :=
  ⟨[.rdCancel, .result .eCancelled 0x00 []], by rw [hostCancel_eq], by simp⟩

theorem returnsNoData_cardAbort (s : State) : ReturnsNoData s (cardAbort s) :=
  ⟨[.tx _ 0, .result .eCardAbort 0x00 []], List.append_assoc _ _ _, by simp⟩

/-- An overflow and a chained block return nothing of the response; the last block completes the exchange (R201). -/
theorem returnsNoData_or_completes_accept (m : Bool) (inf : ByteString) (s : State) :
    ReturnsNoData s (accept m inf s) ∨ Completes s (accept m inf s) := by
  rcases accept_cases m inf s with ⟨-, he⟩ | ⟨-, -, he⟩ | ⟨-, -, he⟩ <;> rw [he]
  · exact .inl (returnsNoData_of_result rfl)
  · exact .inl (returnsNoData_of_frame rfl)
  · exact .inr ⟨rfl, _, rfl⟩

/-! ### Every step -/

/-- Only a response I-block in sequence can complete an exchange; no other effect returns data. -/
theorem Effect.data_cases {s t : State} {e : Event} (he : Effect s e t) :
    ReturnsNoData s t ∨ ((s.st = .awaitResp ∨ s.st = .receiving) ∧ Completes s t) := by
  cases he with
  | hostViolation | transportViolation | ignored => exact .inl (returnsNoData_of_silence rfl)
  | turnedAway | opened | closed | aborted => exact .inl (returnsNoData_of_result rfl)
  | exchangeStarted | resyncStarted | acknowledged | resent | waitGranted | ifsAdopted =>
    exact .inl (returnsNoData_of_frame rfl)
  | cancelled => exact .inl (returnsNoData_hostCancel s)
  | recovered _ cause => exact .inl (returnsNoData_recoverable cause (rxPrologue s))
  | firstAccepted _ _ m inf _ _ hst =>
    exact (returnsNoData_or_completes_accept m inf { rxPrologue s with ns := !s.ns }).imp_right fun hc => ⟨.inl hst, hc⟩
  | nextAccepted _ _ m inf _ _ hst =>
    exact (returnsNoData_or_completes_accept m inf (rxPrologue s)).imp_right fun hc => ⟨.inr hst, hc⟩
  | cardAborted => exact .inl (returnsNoData_cardAbort (rxPrologue s))
  | resynced => exact .inl (returnsNoData_resyncDone (rxPrologue s))
  | attemptFailed => exact .inl (returnsNoData_resyncAttemptFailed (rxPrologue s))

/-- Every step returns no data, or completes an exchange whose response it was receiving. -/
theorem step_data_cases {s t : State} (h : step s = .next t) :
    ReturnsNoData s t ∨ ((s.st = .awaitResp ∨ s.st = .receiving) ∧ Completes s t) := by
  obtain ⟨-, ⟨-, rfl⟩ | ⟨e, rest, -, heffect⟩⟩ := step_effect h
  · exact .inl (returnsNoData_of_silence rfl)
  · exact heffect.data_cases

/-- Settles O50: a step with data in a result is one that completes an exchange, and its only message is the OK. -/
theorem onlyACompletedExchangeReturnsData : Obligations.OnlyACompletedExchangeReturnsData := by
  intro s t hstep
  rcases step_data_cases hstep with ⟨ms, ho, hempty⟩ | ⟨hst, hidle, data, ho⟩
  · exact ⟨ms, ho, fun code detail data hmem hdata => absurd (hempty code detail data hmem) hdata⟩
  · refine ⟨_, ho, fun code detail payload hmem _ => ?_⟩
    obtain ⟨rfl, rfl, -⟩ : code = .ok ∧ detail = 0x00 ∧ payload = data := by simpa using hmem
    exact ⟨rfl, rfl, hst, hidle⟩

end Sys2Proof.Machine
end

section
/-! The frame that a retransmission resends (`70_reset_and_hazards.md` R358, `10_state.md` R33, `42_exchange.md` R184). A rule
that starts to await another block writes `lastTx` together with the registers that describe that block; a rule that keeps
awaiting the same block writes none of them. -/

namespace Sys2Proof.Machine

/-- Where no reply is awaited, nothing can be resent. -/
theorem lastTxIsTheBlockInFlight_of_not_busy {s : State} (hb : busy s.st = false) : LastTxIsTheBlockInFlight s := by
  unfold LastTxIsTheBlockInFlight
  cases hst : s.st with
  | closed | idle | dead => trivial
  | awaitAck | awaitResp | receiving | resyncing => simp [hst, busy] at hb

/-! ### The procedures that send another block -/

/-- The length of a fragment fits its register, since `ifs` is a byte (R26, R31). -/
theorem toNat_fragLen_sendFragment (s : State) : (sendFragment s).fragLen.toNat = nextFragLen s := by
  have hifs := s.ifs.isLt
  change (BitVec.ofNat 8 (nextFragLen s)).toNat = nextFragLen s
  rw [BitVec.toNat_ofNat, nextFragLen]
  omega

/-- `SendFragment()` puts the fragment cut at `txOff` in flight; its M bit and the control state say alike whether more
bytes follow (R182). -/
theorem lastTxIsTheBlockInFlight_sendFragment (s : State) : LastTxIsTheBlockInFlight (sendFragment s) := by
  have hsent : (sendFragment s).lastTx =
      encodeI s.cfg.crc16Fn s.edc s.nad s.ns (moreFollows s) ((s.txBuf.drop s.txOff.toNat).take (nextFragLen s)) := rfl
  unfold LastTxIsTheBlockInFlight
  rw [sendFragment_st, toNat_fragLen_sendFragment, hsent, encodeI_eq]
  cases moreFollows s <;> cases hns : s.ns <;> simp [sendFragment, hns]

theorem lastTxIsTheBlockInFlight_resyncStarted (o : Origin) (s : State) :
    LastTxIsTheBlockInFlight (resyncStarted o s) := rfl

/-- A chained block is acknowledged with the bit of the block that is expected next (R201). -/
theorem lastTxIsTheBlockInFlight_accept (m : Bool) (inf : ByteString) (s : State) :
    LastTxIsTheBlockInFlight (accept m inf s) := by
  rcases accept_cases m inf s with ⟨-, he⟩ | ⟨-, -, he⟩ | ⟨-, -, he⟩ <;> rw [he]
  · exact lastTxIsTheBlockInFlight_of_not_busy rfl
  · exact encodeR_eq _ _ _ _
  · exact lastTxIsTheBlockInFlight_of_not_busy rfl

/-! ### The procedures that may resend the block -/

theorem lastTxIsTheBlockInFlight_recoverable {s : State} (h : LastTxIsTheBlockInFlight s) (cause : BitVec 7) :
    LastTxIsTheBlockInFlight (recoverable cause s) := by
  rcases recovered_cases (recoverable_spec cause s) with ⟨-, he⟩ | ⟨-, -, he⟩ | ⟨-, -, he⟩ <;> rw [he]
  · exact h
  · exact lastTxIsTheBlockInFlight_of_not_busy rfl
  · exact lastTxIsTheBlockInFlight_resyncStarted _ _

theorem lastTxIsTheBlockInFlight_resyncAttemptFailed {s : State} (h : LastTxIsTheBlockInFlight s) :
    LastTxIsTheBlockInFlight (resyncAttemptFailed s) := by
  rcases attemptFailed_cases (resyncAttemptFailed_spec s) with ⟨-, he⟩ | ⟨-, he⟩ <;> rw [he]
  · exact h
  · exact lastTxIsTheBlockInFlight_of_not_busy rfl

/-! ### Every step -/

/-- Every effect of an event sends the block it then awaits a reply to, or keeps the block in flight as it is, or ends the
command. -/
theorem Effect.lastTxIsTheBlockInFlight {s t : State} {e : Event} (he : Effect s e t) (h : LastTxIsTheBlockInFlight s) :
    LastTxIsTheBlockInFlight t := by
  cases he with
  | exchangeStarted | acknowledged => exact lastTxIsTheBlockInFlight_sendFragment _
  | resyncStarted => exact lastTxIsTheBlockInFlight_resyncStarted _ _
  | firstAccepted _ _ m inf | nextAccepted _ _ m inf => exact lastTxIsTheBlockInFlight_accept m inf _
  | recovered _ cause => exact lastTxIsTheBlockInFlight_recoverable (s := rxPrologue s) h cause
  | attemptFailed => exact lastTxIsTheBlockInFlight_resyncAttemptFailed (s := rxPrologue s) h
  | hostViolation | transportViolation | turnedAway | ignored | resent | waitGranted | ifsAdopted => exact h
  | opened | closed | cancelled | aborted | cardAborted => exact lastTxIsTheBlockInFlight_of_not_busy rfl
  | resynced => exact lastTxIsTheBlockInFlight_of_not_busy (by rw [resyncDone_eq]; rfl)

/-- Settles O45: a step that waits changes nothing, and every effect of an event keeps the block in flight. The rules keep it
whatever the ranges of the other registers are, so `Sound` is not needed. -/
theorem everyStepKeepsTheBlockInFlight : Obligations.EveryStepKeepsTheBlockInFlight := by
  intro s t _ h hstep
  obtain ⟨-, ⟨-, rfl⟩ | ⟨e, rest, -, heffect⟩⟩ := step_effect hstep
  · exact h
  · exact heffect.lastTxIsTheBlockInFlight h

end Sys2Proof.Machine
end

section
/-! The order of a step's messages (`70_reset_and_hazards.md` R362, `20_memory.md` R68). Nearly every rule emits one message;
only CANCEL and the card's ABORT request put another message in front of the result that ends the command. -/

namespace Sys2Proof.Machine

/-- The rule that led from `s` to `t` emitted exactly one message. -/
def EmitsOne (s t : State) : Prop := ∃ m, t.outbox = s.outbox ++ [m]

/-- The rule that led from `s` to `t` emitted a message that is no result, and then a result. -/
def EmitsBeforeResult (s t : State) : Prop :=
  ∃ m code detail data, isResult m = false ∧ t.outbox = s.outbox ++ [m, .result code detail data]

/-! ### The shared procedures -/

theorem emitsOne_recoverable (cause : BitVec 7) (s : State) : EmitsOne s (recoverable cause s) := by
  rcases recovered_cases (recoverable_spec cause s) with ⟨-, he⟩ | ⟨-, -, he⟩ | ⟨-, -, he⟩ <;> rw [he] <;> exact ⟨_, rfl⟩

theorem emitsOne_accept (m : Bool) (inf : ByteString) (s : State) : EmitsOne s (accept m inf s) := by
  rcases accept_cases m inf s with ⟨-, he⟩ | ⟨-, -, he⟩ | ⟨-, -, he⟩ <;> rw [he] <;> exact ⟨_, rfl⟩

theorem emitsOne_resyncAttemptFailed (s : State) : EmitsOne s (resyncAttemptFailed s) := by
  rcases attemptFailed_cases (resyncAttemptFailed_spec s) with ⟨-, he⟩ | ⟨-, he⟩ <;> rw [he] <;> exact ⟨_, rfl⟩

theorem emitsOne_resyncDone (s : State) : EmitsOne s (resyncDone s) := by
  rw [resyncDone_eq]
  exact ⟨_, rfl⟩

theorem emitsBeforeResult_hostCancel (s : State) : EmitsBeforeResult s (hostCancel s) :=
  ⟨.rdCancel, _, _, _, rfl, by rw [hostCancel_eq]⟩

theorem emitsBeforeResult_cardAbort (s : State) : EmitsBeforeResult s (cardAbort s) :=
  ⟨.tx _ 0, _, _, _, rfl, List.append_assoc _ _ _⟩

/-! ### Every step -/

/-- An effect of an event emits nothing, or one message, or a message and then a result. -/
theorem Effect.messages_cases {s t : State} {e : Event} (he : Effect s e t) :
    t.outbox = s.outbox ∨ EmitsOne s t ∨ EmitsBeforeResult s t := by
  cases he with
  | hostViolation | transportViolation | ignored => exact .inl rfl
  | turnedAway | opened | closed | exchangeStarted | resyncStarted | aborted | acknowledged | resent | waitGranted
  | ifsAdopted => exact .inr (.inl ⟨_, rfl⟩)
  | recovered _ cause => exact .inr (.inl (emitsOne_recoverable cause (rxPrologue s)))
  | firstAccepted _ _ m inf => exact .inr (.inl (emitsOne_accept m inf { rxPrologue s with ns := !s.ns }))
  | nextAccepted _ _ m inf => exact .inr (.inl (emitsOne_accept m inf (rxPrologue s)))
  | resynced => exact .inr (.inl (emitsOne_resyncDone (rxPrologue s)))
  | attemptFailed => exact .inr (.inl (emitsOne_resyncAttemptFailed (rxPrologue s)))
  | cancelled => exact .inr (.inr (emitsBeforeResult_hostCancel s))
  | cardAborted => exact .inr (.inr (emitsBeforeResult_cardAbort (rxPrologue s)))

theorem step_messages_cases {s t : State} (h : step s = .next t) :
    t.outbox = s.outbox ∨ EmitsOne s t ∨ EmitsBeforeResult s t := by
  obtain ⟨-, ⟨-, rfl⟩ | ⟨e, rest, -, heffect⟩⟩ := step_effect h
  · exact .inl rfl
  · exact heffect.messages_cases

/-- Settles O49: one message is at most one frame and has none before it; of two, the first is no result and the second no
frame. -/
theorem messagesLeaveInOrder : Obligations.MessagesLeaveInOrder := by
  intro s t hstep
  rcases step_messages_cases hstep with ho | ⟨m, ho⟩ | ⟨m, code, detail, data, hm, ho⟩
  · exact ⟨[], by rw [ho, List.append_nil], Nat.zero_le 1, rfl⟩
  · exact ⟨[m], ho, List.countP_le_length, rfl⟩
  · refine ⟨_, ho, ?_, by simp [hm]⟩
    calc [m, .result code detail data].countP isTx = [m].countP isTx := by simp [List.countP_cons, isTx]
      _ ≤ 1 := List.countP_le_length

end Sys2Proof.Machine
end

section
/-! The late answer of the card (`70_reset_and_hazards.md` R356, `42_exchange.md` R187, R197). Neither the abort after a timeout
nor the start of the next exchange changes a sequence bit, so the answer to the first exchange is in sequence in the second. -/

namespace Sys2Proof.Machine

/-! ### An exchange of one block -/

/-- What is unsent fits one block, so none follows it (R182). -/
theorem moreFollows_eq_false {s : State} (hoff : s.txOff.toNat ≤ s.txBuf.length)
    (hone : (unsent s).length ≤ s.ifs.toNat) : moreFollows s = false := by
  rw [moreFollows_eq hoff, decide_eq_false (Nat.not_lt.mpr hone)]

section
variable {s : State} {apdu : ByteString} (hone : apdu.length ≤ s.ifs.toNat) (rest : List Event)

include hone

theorem moreFollows_exchangeStarting : moreFollows (exchangeStarting apdu rest s) = false :=
  moreFollows_eq_false (Nat.zero_le _) hone

/-- After an APDU that fits one block the engine awaits the response at once. -/
theorem awaitsResponse_exchangeStarting (hfault : s.fault = .none) :
    AwaitsResponse (sendFragment (exchangeStarting apdu rest s)) where
  no_fault := hfault
  awaits_block := .inl (by rw [sendFragment_st, moreFollows_exchangeStarting hone]; rfl)
  read_pending := rfl

/-- An APDU that fits one block goes out whole and unchained. -/
theorem outbox_sendFragment_exchangeStarting :
    (sendFragment (exchangeStarting apdu rest s)).outbox = s.outbox ++ [fragmentMessage s s.ns false apdu] := by
  have hwhole : (unsent (exchangeStarting apdu rest s)).take (exchangeStarting apdu rest s).ifs.toNat = apdu :=
    List.take_of_length_le hone
  rw [sendFragment_outbox, moreFollows_exchangeStarting hone, hwhole]
  rfl

end

/-- The outcome of an exchange of one block each way: the APDU and then the result with the response `x`, and each sequence
bit toggled once (R27, R28). -/
structure ExchangedOneBlock (apdu x : ByteString) (s t : State) : Prop where
  idle : t.st = .idle
  ns_eq : t.ns = !s.ns
  nr_eq : t.nr = !s.nr
  outbox_eq : t.outbox = s.outbox ++ [fragmentMessage s s.ns false apdu, .result .ok 0x00 x]

/-- An EXCHANGE of one block, answered by one in-sequence block. -/
theorem runsTo_exchangedOneBlock {s : State} {apdu x : ByteString} {nad : Byte} {rest : List Event}
    (hfault : s.fault = .none) (hst : s.st = .idle) (hmax : apdu.length ≤ s.cfg.apduMax) (hone : apdu.length ≤ s.ifs.toNat)
    (hx : x.length ≤ 255) (hfit : x.length ≤ s.cfg.respMax) (hinbox : s.inbox = .cmd 0x00000003 apdu :: rest)
    (hrest : rest = [blockEvent s nad s.nr false x]) : ∃ t, RunsTo 2 s t ∧ ExchangedOneBlock apdu x s t := by
  have hstart := step_exchange_idle hfault hst hmax hinbox
  have hawaits := awaitsResponse_exchangeStarting hone rest hfault
  have hanswer := hawaits.step_last (rest := []) hx ((Nat.zero_add _).le.trans hfit) hrest
  obtain ⟨hidle, hns, hnr, hout⟩ :=
    responseCompleted_lastAccepted x [] (sendFragment (exchangeStarting apdu rest s))
  refine ⟨_, runsTo_succ hstart (runsTo_succ hanswer (runsTo_zero _)), hidle, ?_, ?_, ?_⟩
  · rw [hns, nsOnResponse, sendFragment_st, moreFollows_exchangeStarting hone]
    rfl
  · exact hnr.trans ((seqBit_succ s.nr 0).trans (seqBit_zero _))
  · have hdata : (sendFragment (exchangeStarting apdu rest s)).rxBuf ++ [x].flatten = x := List.append_nil x
    rw [hout, outbox_sendFragment_exchangeStarting hone, hdata, List.append_assoc, List.append_assoc]
    rfl

/-! ### The litmus run -/

/-- Settles O60: the timeout aborts the first exchange and leaves both sequence bits, so its late answer is the in-sequence
response to the second. -/
theorem lateReplyAnswersTheNextExchange : Obligations.LateReplyAnswersTheNextExchange := by
  intro s apdu x nad hfault hst hpending hmax hone hx hfit hinbox
  have htimeout := timeoutAborts s _ hfault hinbox hpending (by rw [hst]; rfl)
  obtain ⟨t, hrun, hidle, hns, hnr, hout⟩ := runsTo_exchangedOneBlock (nad := nad)
    (s := aborted .eTimeout 0x00 (received s [.cmd 0x00000003 apdu, blockEvent s nad s.nr false x]))
    hfault rfl hmax hone hx hfit rfl rfl
  exact ⟨t, runsTo_succ htimeout hrun, hidle, hns, hnr, hout.trans (List.append_assoc _ _ _)⟩

end Sys2Proof.Machine
end

section
/-! What no event touches (`70_reset_and_hazards.md` R350, R351, R353): the engine after reset, the engine with no event offered,
and the implementation parameters. -/

namespace Sys2Proof.Machine

/-- Settles O42: reset writes the four registers that R350 fixes, and keeps the messages of a running engine. -/
theorem resetLeavesTheEngineQuiescent : Obligations.ResetLeavesTheEngineQuiescent :=
  ⟨⟨rfl, rfl, rfl, rfl, rfl⟩, fun _ => ⟨rfl, rfl, rfl, rfl, rfl⟩⟩

/-- Settles O2: without a fault the step looks at the queue, and an empty one ends it. -/
theorem noEventLeavesTheStateUnchanged : Obligations.NoEventLeavesTheStateUnchanged := by
  intro s hfault hinbox
  have hhalt : haltReason s.fault = none := haltReason_eq_none.mpr hfault
  simp [step, stepEvent, hhalt, hinbox]

/-! ### The parameters -/

theorem cfg_recoverable (cause : BitVec 7) (s : State) : (recoverable cause s).cfg = s.cfg := by
  rcases recovered_cases (recoverable_spec cause s) with ⟨-, he⟩ | ⟨-, -, he⟩ | ⟨-, -, he⟩ <;>
    exact (congrArg State.cfg he :)

theorem cfg_accept (m : Bool) (inf : ByteString) (s : State) : (accept m inf s).cfg = s.cfg := by
  rcases accept_cases m inf s with ⟨-, he⟩ | ⟨-, -, he⟩ | ⟨-, -, he⟩ <;>
    exact (congrArg State.cfg he :)

theorem cfg_resyncAttemptFailed (s : State) : (resyncAttemptFailed s).cfg = s.cfg := by
  rcases attemptFailed_cases (resyncAttemptFailed_spec s) with ⟨-, he⟩ | ⟨-, he⟩ <;>
    exact (congrArg State.cfg he :)

theorem cfg_resyncDone (s : State) : (resyncDone s).cfg = s.cfg :=
  (congrArg State.cfg (resyncDone_eq s) :)

/-- No effect of an event writes the parameters; CLOSE, which gives up the registers, keeps them too (R284). -/
theorem Effect.cfg_eq {s t : State} {e : Event} (he : Effect s e t) : t.cfg = s.cfg := by
  cases he with
  | recovered _ cause => exact cfg_recoverable cause (rxPrologue s)
  | firstAccepted _ _ m inf => exact cfg_accept m inf { rxPrologue s with ns := !s.ns }
  | nextAccepted _ _ m inf => exact cfg_accept m inf (rxPrologue s)
  | resynced => exact cfg_resyncDone (rxPrologue s)
  | attemptFailed => exact cfg_resyncAttemptFailed (rxPrologue s)
  | hostViolation | transportViolation | turnedAway | opened | closed | exchangeStarted | resyncStarted | cancelled | ignored
  | aborted | acknowledged | resent | waitGranted | ifsAdopted | cardAborted => rfl

/-- Settles O8: a step waits or has one of the effects of an event, and neither writes the parameters. -/
theorem parametersNeverChange : Obligations.ParametersNeverChange := by
  intro s t hstep
  obtain ⟨-, ⟨-, rfl⟩ | ⟨e, rest, -, heffect⟩⟩ := step_effect hstep
  · rfl
  · exact heffect.cfg_eq

end Sys2Proof.Machine
end
